-- ==== Sys2Proof/Word.lean ====
section
/-! DEFINITION. Word types of the station: the byte of the loop frame, the panel frame and the
configuration memory, and the two-byte fields sent high byte first (00_scope 5.1). -/
namespace Sys2Proof

/-- One byte of a frame, of the profile image or of a detector reading. -/
abbrev Byte := BitVec 8

/-- A two-byte field (00_scope 5.1). -/
abbrev Half := BitVec 16

end Sys2Proof
end

