-- ==== Sys2Proof/Syntax.lean ====
section
/-! DEFINITION. The commands of the station: one constructor of `Instr` for each row of
spec/opcode_table.json, with the operands the event brings from outside (log 4). -/
namespace Sys2Proof

/-- The two loop ports (R1). -/
inductive Port where
  | a
  | b
deriving DecidableEq, Repr

/-- The two directions of travel (R1). -/
inductive Ring where
  | ab
  | ba
deriving DecidableEq, Repr

/-- A line symbol as a receiver sees it (R2): four marks, a data byte, or an invalid symbol. -/
inductive Symbol where
  | opening
  | closing
  | abort
  | gapFill
  | data (b : Byte)
  | invalid
deriving DecidableEq, Repr

/-- What ends a frame in progress early at a receiver (R3). -/
inductive AbortCause where
  | abortMark
  | gapFill
  | invalidSymbol
  | excessByte (b : Byte)
deriving DecidableEq, Repr

/-- Positions of the manager key (R76). -/
inductive ManagerPos where
  | off
  | on
deriving DecidableEq, Repr

/-- Positions of the engineer key (R76). -/
inductive EngineerPos where
  | off
  | on
  | suspend
deriving DecidableEq, Repr

/-- The two limit switches of a curtain (R105). -/
inductive LimitSwitch where
  | down
  | up
deriving DecidableEq, Repr

/-- The commands of the block: the rows of spec/opcode_table.json, in the table's order. A panel
command carries its frame's tag and the fields of its body as sent (Table 10-2). -/
inductive Instr where
  | powerOnReset (downClosed upClosed : Bool)
  | resetPin (downClosed upClosed : Bool)
  | startModeSettled (straps : BitVec 6) (serviceLow memoryAnswers : Bool) (encoder : Half)
  | loopFrameReceived (port : Port)
  | loopFrameAborted (port : Port) (cause : AbortCause)
  | gapFillReceived (port : Port)
  | silenceTimerExpiry (port : Port)
  | loneStartExpiry
  | repeatStart (ring : Ring)
  | repeatEnd (ring : Ring)
  | insertionStart (ring : Ring)
  | insertionAbort (ring : Ring)
  | insertionComplete (ring : Ring)
  | loopTestEcho (tag : Byte)
  | loopTestSelf (tag : Byte)
  | loopTestOff (tag : Byte)
  | returnLimitExpiry (seq : Byte)
  | absenceTimerExpiry (station : Nat)
  | presenceRound
  | lineSample (readings : Vector Byte 32)
  | ackWindowExpiry (zone : Nat)
  | investigationExpiry (zone : Nat)
  | ackAlert (tag zone : Byte)
  | confirmAlert (tag zone : Byte)
  | cancelAlert (tag zone : Byte)
  | managerKeyChange (pos : ManagerPos)
  | engineerKeyChange (pos : EngineerPos)
  | isolate (tag zone kind : Byte) (minutes : Option Half)
  | deisolate (tag zone : Byte)
  | isolationWarning (zone : Nat)
  | isolationExpiry (zone : Nat)
  | setPhase (tag phase : Byte)
  | evacuate (tag : Byte)
  | silence (tag : Byte)
  | houseReset (tag : Byte)
  | curtainRaise (tag curtain : Byte)
  | curtainResume (tag curtain : Byte)
  | curtainLower (tag curtain : Byte)
  | curtainStop (tag curtain : Byte)
  | curtainDrop (tag curtain : Byte)
  | curtainProof (tag curtain : Byte)
  | curtainClearStatus (tag curtain : Byte)
  | limitEvent (switch : LimitSwitch) (closed : Bool) (encoder : Half)
  | raiseKeyChange (pressed : Bool)
  | raiseTimeout
  | travelSample (encoder : Half)
  | fadeTick
  | periodWrap (channel : Nat)
  | periodCompareMatch (channel : Nat)
  | lightCue (tag : Byte) (groups target time : Half)
  | lightHold (tag : Byte) (groups : Half)
  | lightResume (tag : Byte) (groups : Half)
  | lightRetime (tag : Byte) (groups time : Half)
  | lightsRelease (tag : Byte)
  | callStart (tag call : Byte)
  | callCancel (tag call : Byte)
  | callAck (tag call area : Byte)
  | chimeEnd (channel : Nat)
  | intervalEnd (channel : Nat)
  | panelFrameReceived (last : Byte)
  | panelGapTimeout
  | panelTransmitStart
  | panelTransmitEnd
  | snapshotStation (tag item : Byte)
  | snapshotPeer (tag item : Byte)
  | snapshotLine (tag item : Byte)
  | snapshotZone (tag item : Byte)
  | snapshotView (tag item : Byte)
  | snapshotFirst (tag item : Byte)
  | snapshotCurtain (tag item : Byte)
  | snapshotLight (tag item : Byte)
  | snapshotLibrary (tag item : Byte)
  | snapshotQueue (tag item : Byte)
  | snapshotChannel (tag item : Byte)
  | profileRead (tag : Byte) (address : Half) (count : Byte)
  | profileWrite (tag : Byte) (address : Half) (bytes : List Byte)
  | profileAccessEnd
  | loopSymbolReceived (port : Port) (symbol : Symbol)
  | panelByteReceived (byte : Byte) (stopLow : Bool)
deriving DecidableEq, Repr

end Sys2Proof
end

