-- ==== Sys2Proof/Decode.lean ====
section
/-! DEFINITION. What the opcode table's words spell. No row of spec/opcode_table.json gives bits
(every "fields" is empty and none is "fixed"), so no word spells a command. -/
namespace Sys2Proof

/-- The command a table word spells: none, for every word, because the table gives no bits. -/
def decodeTableWord (_nbits _w : Nat) : Option Instr := none

end Sys2Proof
end

