-- ==== Sys2Proof/Config.lean ====
section
/-! DEFINITION. Free values: constants without a body, where the spec gives an effect and states no
value. Nothing in Lean can evaluate them or prove which value they have. -/
namespace Sys2Proof.Config

/-- The enumerations that reports and snapshots carry and to which Table 2-3 gives no codes (R188 sends
"the codes of Table 2-3"). -/
inductive CodeTable where
  | port
  | joinState
  | ring
  | startMode
  | startCause
  | faultReason
  | peerState
  | lineKind
  | lineState
  | isolationEvent
  | endReason
  | isolationKind
  | authorisingKey
  | lastResult
  | proofMark
  | override
  | lightCurve
  | callOutcome
  | dropReason
  | dispatchState
  | rejectReason
deriving DecidableEq, Repr

/-- The byte that codes the n-th name of an enumeration without stated codes (log 8). -/
opaque unstatedCode : CodeTable → Nat → Byte

/-- How many bytes of a write in course the configuration memory has taken when a reset comes, before
it is bounded by the write's length (R195; log 9). Applied to the counter State.freeCount. -/
opaque bytesTakenAtReset : Nat → Nat

/-- The group of a light channel whose profile byte lies above 15, before it is bounded (R146; log 10). Applied to the
channel number and the byte. -/
opaque unstatedGroup : Nat → Nat → Nat

/-- The area of a sounder whose profile byte lies outside 1 to 8, before it is bounded (R164; log 10). Applied to the
channel number and the byte. -/
opaque unstatedArea : Nat → Nat → Nat

/-- The group of a library definition whose image byte lies above 3, before it is bounded (R163; log 10). Applied to
the definition's place in the image and the byte. -/
opaque unstatedCallGroup : Nat → Nat → Nat

end Sys2Proof.Config
end

