-- ==== Sys2Proof/Machine/State.lean ====
section
/-! DEFINITION. The station's state as plain data, block by block (Table 0-1), and the state right after
a reset. Every record of a table carries its own number, and a table is the list of its records in
rising order of number. Timers are held as the moment they are due on the time base `State.now`
(microseconds, log 1); an absent moment is a timer that does not run. -/
namespace Sys2Proof.Machine

/-! ### Names of states, kinds, causes and actions -/

/-- State of a zone (R53). -/
inductive ZoneState where
  | quiet
  | fault
  | preAlarm
  | alert
  | confirmed
  | silenced
deriving DecidableEq, Repr

/-- Cause of a zone's change (Table 2-3). -/
inductive Cause where
  | smoke
  | heat
  | manual
  | coincidence
  | ackExpiry
  | investigationExpiry
  | confirmedByPanel
  | notInvestigable
  | reset
  | cancel
  | fault
deriving DecidableEq, Repr

/-- Actions on an alert (R63). -/
inductive AlertAction where
  | ack
  | confirm
  | cancel
deriving DecidableEq, Repr

/-- House commands (R92). -/
inductive HouseCommand where
  | evacuate
  | silence
  | houseReset
deriving DecidableEq, Repr

/-- Show phases (R99). -/
inductive Phase where
  | closed
  | rehearsal
  | houseOpen
  | performance
  | interval
  | houseClear
deriving DecidableEq, Repr

/-- Curtain states (Table 6-1). -/
inductive CurtainState where
  | down
  | raising
  | raiseHeld
  | up
  | lowering
  | lowerHeld
  | dropping
  | stuck
deriving DecidableEq, Repr

/-- Curtain errors (R108). -/
inductive CurtainError where
  | overspeed
  | stall
  | raiseStall
  | late
  | limitDisagree
  | raiseTimeout
deriving DecidableEq, Repr

/-- Actions a CURTAIN_REQ carries (R112). -/
inductive CurtainAction where
  | lower
  | stop
  | drop
  | proof
  | clearStatus
deriving DecidableEq, Repr

/-- State of a loop port (R15). -/
inductive PortState where
  | up
  | down
deriving DecidableEq, Repr

/-- Loop integrity (R35). -/
inductive Integrity where
  | whole
  | broken
deriving DecidableEq, Repr

/-- Join state of the station (R16 to R23). -/
inductive JoinState where
  | bypass
  | active
  | echoTest
  | selfTest
deriving DecidableEq, Repr

/-- State of a roster entry (R38). -/
inductive PeerState where
  | self
  | absent
  | present
deriving DecidableEq, Repr

/-- Kind of a detector line (R45). -/
inductive LineKind where
  | smoke
  | heat
  | manual
  | unused
deriving DecidableEq, Repr

/-- State of a detector line (R45). -/
inductive LineState where
  | normal
  | preAlarm
  | alarm
  | faultOpen
  | faultShort
  | unused
deriving DecidableEq, Repr

/-- Kind of an isolation (R73). -/
inductive IsolationKind where
  | show
  | service
deriving DecidableEq, Repr

/-- Why an isolation ended (R79). -/
inductive EndReason where
  | deisolate
  | expiry
  | phase
  | reset
deriving DecidableEq, Repr

/-- Event of an ISOLATION report (R85). -/
inductive IsolationEvent where
  | made
  | replaced
  | warning
  | suspended
  | restored
  | ended (reason : EndReason)
deriving DecidableEq, Repr

/-- How the most recent curtain motion ended (R108). -/
inductive LastResult where
  | none
  | completed
  | stopped
  | fault
deriving DecidableEq, Repr

/-- Proof mark (R118). -/
inductive ProofMark where
  | none
  | running
  | passed
  | failed
deriving DecidableEq, Repr

/-- Output law of a light channel (R154). -/
inductive Curve where
  | linear
  | square
deriving DecidableEq, Repr

/-- Override of a light channel (R156). -/
inductive Override where
  | none
  | active
  | retained
deriving DecidableEq, Repr

/-- Start modes (R192). -/
inductive StartMode where
  | normal
  | service
  | profileFault
deriving DecidableEq, Repr

/-- Start causes (R192). -/
inductive StartCause where
  | powerOn
  | resetPin
deriving DecidableEq, Repr

/-- Fault reasons of the profile validation (R194). -/
inductive FaultReason where
  | noNumber
  | noMemory
  | format
  | length
  | crc
  | sections
  | noStationSection
  | field
deriving DecidableEq, Repr

/-- Refusal reasons of a panel command (Table 10-3). -/
inductive Reason where
  | badArgument
  | unknownZone
  | unknownCall
  | notOwner
  | noCurtain
  | keyRequired
  | houseLevel
  | phase
  | curtainState
  | statusLatched
  | dropUnstoppable
  | tooLate
  | notProven
  | queueFull
  | loopBusy
  | serviceOnly
  | zoneState
deriving DecidableEq, Repr

/-- Answer to a panel command (00_scope 5.5). -/
inductive Answer where
  | accepted
  | forwarded
  | refused (reason : Reason)
deriving DecidableEq, Repr

/-- Why a panel frame was rejected (R185, R186). -/
inductive RejectReason where
  | check
  | gap
  | length
  | line
  | busy
deriving DecidableEq, Repr

/-- Why a call was dropped (R181). -/
inductive DropReason where
  | queueFull
  | displaced
  | alarm
deriving DecidableEq, Repr

/-! ### Notices (chapter 2) -/

/-- A light action and the fields it carries as sent (Table 2-1). -/
inductive LightAction where
  | cue (target time : Half)
  | hold
  | resume
  | retime (time : Half)
deriving DecidableEq, Repr

/-- The roles of a station (Table 2-1): curtain number with 0 for none, lines, channels and sounders in use. -/
structure Roles where
  curtain : Nat
  lines : Nat
  channels : Nat
  sounders : Nat
deriving DecidableEq, Repr

/-- One item of an owned-zone digest (Table 2-1). -/
structure DigestItem where
  zone : Nat
  state : ZoneState
  isolated : Bool
  epoch : Byte
deriving DecidableEq, Repr

/-- A curtain summary as PRESENCE carries it (Table 2-1). -/
structure CurtainSummary where
  curtain : Nat
  state : CurtainState
  position : Nat
  proven : Bool
  error : Option CurtainError
deriving DecidableEq, Repr

/-- The body of a PRESENCE (Table 2-1). -/
structure Presence where
  roles : Roles
  portA : PortState
  portB : PortState
  integrity : Integrity
  level : Nat
  phase : Phase
  phaseSeq : Half
  phaseOrigin : Nat
  fresh : Bool
  digest : List DigestItem
  summary : Option CurtainSummary
deriving DecidableEq, Repr

/-- A call's definition: the body of a CALL and an entry of the call library (Table 2-1, R163). Area a is a
member of the set when bit a - 1 is set (R26). -/
structure CallDef where
  number : Nat
  pattern : Nat
  areas : Byte
  repeats : Nat
  interval : Nat
  priority : Nat
  group : Nat
  ackWanted : Bool
  dropOnAlarm : Bool
deriving DecidableEq, Repr

/-- A notice's kind and body (Table 2-1). -/
inductive Notice where
  | presence (p : Presence)
  | zoneState (item : DigestItem) (cause : Cause)
  | alertAction (zone : Nat) (action : AlertAction)
  | houseCmd (command : HouseCommand) (seq : Byte)
  | phase (phase : Phase) (seq : Half)
  | curtain (summary : CurtainSummary) (stage : Nat)
  | curtainReq (curtain : Nat) (action : CurtainAction)
  | lightCue (groups : Half) (action : LightAction)
  | call (c : CallDef)
  | callCancel (number : Nat)
  | callAck (number area : Nat)
deriving DecidableEq, Repr

/-- A good loop frame: its header fields but for the body length, and its body (Table 1-1). The body length and
the frame check sequence of a good frame are computed from the rest. -/
structure Frame where
  origin : Byte
  seq : Byte
  hop : Byte
  kind : Byte
  body : List Byte
deriving DecidableEq, Repr

/-! ### Loop interface (chapter 1) -/

/-- One port: its state, the moment its silence timer is due, its join count, and its assembler with the bytes of
the frame in progress, or none (R3, R15, R17). -/
structure PortRec where
  state : PortState
  silenceDue : Nat
  joinCount : Nat
  frame : Option (List Byte)
deriving DecidableEq, Repr

/-- The transmitter of a direction (R9). In GAP, `ready` is the moment at which two gap fill symbols have been
sent; in REPEAT and INSERT, `done` is the moment at which the closing mark has been sent (R2). An aborted insertion
keeps the frame and its `done`; `mark` is the moment at which its abort mark has been sent, and GAP begins (R12). What a
transmitter sends, and its state's name, are views (Machine/Flags.lean). -/
inductive Transmitter where
  | off
  | gap (ready : Nat)
  | sendRepeat (frame : Frame) (done : Nat)
  | sendInsert (frame : Frame) (done : Nat)
  | sendAbort (frame : Frame) (done mark : Nat)
deriving DecidableEq, Repr

/-- One direction of travel: its transmitter and its repeat buffer, oldest first (R9). -/
structure Direction where
  tx : Transmitter
  buffer : List Frame
deriving DecidableEq, Repr

/-- The loop interface. The relays are energised in join states ACTIVE and ECHO_TEST, and a transmitter is joined
to its upstream receiver in SELF_TEST (R16, R22): both are read off the join state. -/
structure Loop where
  join : JoinState
  portA : PortRec
  portB : PortRec
  dirAB : Direction
  dirBA : Direction
  loneDue : Option Nat
deriving DecidableEq, Repr

/-! ### Notice unit (chapter 2) -/

/-- An entry of the transmit queue (R29). Its notice level and group are read off the notice (Table 2-4). -/
structure TxEntry where
  notice : Notice
  age : Nat
  seq : Option Byte
  onAB : Bool
  onBA : Bool
deriving DecidableEq, Repr

/-- An entry of the awaiting-return list (R32). -/
structure Awaiting where
  seq : Byte
  sendTime : Nat
  sentAB : Bool
  sentBA : Bool
  returnedAB : Bool
  returnedBA : Bool
deriving DecidableEq, Repr

/-- What the roster keeps of a peer's most recent PRESENCE (R38). -/
structure LatestPresence where
  roles : Roles
  portA : PortState
  portB : PortState
  integrity : Integrity
  level : Nat
deriving DecidableEq, Repr

/-- A roster entry (R38). The entry of this station's own number is SELF and holds the station's roles. -/
structure Peer where
  number : Nat
  state : PeerState
  lastSeq : Option Byte
  absenceDue : Option Nat
  ring : Option Ring
  freshSeen : Bool
  latest : Option LatestPresence
  ownRoles : Option Roles
deriving DecidableEq, Repr

/-- The notice unit. An absent `roundDue` is the stopped round timer (R42). -/
structure Notices where
  queue : List TxEntry
  nextAge : Nat
  ownSeq : Byte
  commandSeq : Byte
  awaiting : List Awaiting
  integrity : Integrity
  roundCount : Nat
  roundDue : Option Nat
  roster : List Peer
deriving DecidableEq, Repr

/-! ### Line scanner and zone supervisor (chapters 3 and 4) -/

/-- A line record (R45). -/
structure LineRec where
  number : Nat
  kind : LineKind
  zone : Nat
  reading : Option Byte
  run : Nat
  state : LineState
  latched : Bool
deriving DecidableEq, Repr

/-- The line scanner: 32 records and the moment of the next sample (R47). -/
structure Lines where
  records : List LineRec
  sampleDue : Option Nat
deriving DecidableEq, Repr

/-- An isolation record (R73). The authorising key is read off the kind; `expiry` is the moment the remaining
time reaches 0, absent for a record without remaining time. -/
structure IsolationRec where
  kind : IsolationKind
  expiry : Option Nat
  warned : Bool
deriving DecidableEq, Repr

/-- An owned zone record (R53). The alarmed-line count is read off the line records (R52). -/
structure ZoneRec where
  number : Nat
  investigable : Bool
  state : ZoneState
  isolated : Bool
  epoch : Byte
  ackDue : Option Nat
  investigationDue : Option Nat
  acknowledged : Bool
  firstCause : Option Cause
  lastCause : Option Cause
  isolation : Option IsolationRec
deriving DecidableEq, Repr

/-! ### House condition unit (chapter 5) -/

/-- A zone view entry (R87). Owner 0 is none; an absent epoch is the epoch-known flag clear. -/
structure ViewEntry where
  zone : Nat
  owner : Nat
  state : ZoneState
  isolated : Bool
  epoch : Option Byte
  ownerLost : Bool
deriving DecidableEq, Repr

/-- A curtain summary entry (R97). Station 0 is none. -/
structure CurtainEntry where
  curtain : Nat
  station : Nat
  state : CurtainState
  position : Nat
  proven : Bool
  error : Option CurtainError
  present : Bool
deriving DecidableEq, Repr

/-- The station fault flags (R94). -/
structure FaultFlags where
  portADown : Bool
  portBDown : Bool
  loopOpen : Bool
  curtainFault : Bool
deriving DecidableEq, Repr

/-- The house condition unit. -/
structure House where
  view : List ViewEntry
  firstAlarm : List Nat
  curtains : List CurtainEntry
  flags : FaultFlags
  level : Nat
  phase : Phase
  phaseSeq : Half
  phaseOrigin : Nat
deriving DecidableEq, Repr

/-! ### Curtain governor and travel supervisor (chapters 6 and 7) -/

/-- The curtain governor: its own curtain number (0 for no curtain, R107), the curtain state, the motion status
record (R108), and the field inputs as held (R105). The outputs and the busy flag are read off the state. -/
structure Governor where
  curtain : Nat
  state : CurtainState
  lastResult : LastResult
  error : Option CurtainError
  proofMark : ProofMark
  proven : Bool
  descentStart : Option Nat
  raiseMicros : Nat
  downClosed : Bool
  upClosed : Bool
  raiseKey : Bool
deriving DecidableEq, Repr

/-- The travel supervisor's record (Table 7-1) and the moment of its next periodic sample (R133). -/
structure Travel where
  previous : Option Half
  accumulator : Nat
  known : Bool
  displacement : Int
  velocity : Int
  stage : Nat
  overRun : Nat
  underRun : Nat
  elapsed : Nat
  closure : Nat
  lateRun : Nat
  overspeedFound : Bool
  lateFound : Bool
  raiseOver : Nat
  raiseUnder : Nat
  sampleDue : Option Nat
deriving DecidableEq, Repr

/-! ### Fade engine (chapter 8) -/

/-- A fade record (R146). -/
structure Fade where
  start : Nat
  target : Nat
  total : Nat
  done : Nat
  held : Bool
deriving DecidableEq, Repr

/-- A pending cue (R146): its target and its time in tenths of a second. -/
structure PendingCue where
  target : Nat
  time : Nat
deriving DecidableEq, Repr

/-- A light channel record (R146) with its period counter, compare register and compare buffer (R153). The counter is
held as the moment of its next wrap (log 31). -/
structure LightChannel where
  number : Nat
  inUse : Bool
  group : Nat
  curve : Curve
  safety : Bool
  floor : Nat
  level : Nat
  fade : Option Fade
  override : Override
  pending : Option PendingCue
  wrapDue : Nat
  compareReg : Nat
  compareBuf : Nat
deriving DecidableEq, Repr

/-- The fade engine: 12 channels and the moment of the next fade tick (R148). -/
structure Lights where
  channels : List LightChannel
  tickDue : Option Nat
deriving DecidableEq, Repr

/-! ### Call dispatcher (chapter 9) -/

/-- An item of a record's area list (R166). -/
structure CallItem where
  area : Nat
  remaining : Nat
  channel : Option Nat
deriving DecidableEq, Repr

/-- A call record (R166). The evacuation record is one with call number 0 (R180). -/
structure CallRec where
  number : Nat
  origin : Nat
  pattern : Nat
  interval : Nat
  priority : Nat
  group : Nat
  ackWanted : Bool
  dropOnAlarm : Bool
  stamp : Nat
  items : List CallItem
deriving DecidableEq, Repr

/-- State of a dispatch channel with its running timer (R164). A sounding channel keeps the pattern its chime
began with (R169). -/
inductive DispatchState where
  | idle
  | sounding (pattern due : Nat)
  | interval (due : Nat)
deriving DecidableEq, Repr

/-- A dispatch channel (R164). -/
structure DispatchChannel where
  number : Nat
  inUse : Bool
  area : Nat
  evacuation : Bool
  state : DispatchState
  bound : Option Nat
  count : Nat
deriving DecidableEq, Repr

/-- The call dispatcher. The queue is kept in rank order, highest first. -/
structure Calls where
  library : List CallDef
  queue : List CallRec
  nextStamp : Nat
  evacuation : Option CallRec
  channels : List DispatchChannel
deriving DecidableEq, Repr

/-! ### Profile and start (chapter 11) -/

/-- Supervision parameters (Table 7-2), clamped into their ranges. -/
structure TravelParams where
  micrometresPerCount : Nat
  length : Nat
  slowZone : Nat
  fastLimit : Nat
  slowLimit : Nat
  raiseLimit : Nat
  deadline : Nat
  inverted : Bool
deriving DecidableEq, Repr

/-- A light channel entry of the station section (Table 11-2). -/
structure LightConfig where
  listed : Bool
  group : Nat
  curve : Curve
  safety : Bool
  floor : Nat
deriving DecidableEq, Repr

/-- A sounder entry of the station section (Table 11-2). -/
structure SounderConfig where
  listed : Bool
  area : Nat
  evacuation : Bool
deriving DecidableEq, Repr

/-- The working copy of the house-wide section and of this station's section (R194), with the clampings and
defaults of R54, R132 and R146 made. -/
structure Profile where
  zoneMap : List Nat
  library : List CallDef
  phaseCalls : List Nat
  warningCall : Nat
  curtain : Nat
  params : TravelParams
  lines : List (LineKind × Nat)
  investigable : List Nat
  ackWindow : Nat
  investigation : Nat
  lights : List LightConfig
  period : Nat
  overrideTime : Nat
  sounders : List SounderConfig
deriving DecidableEq, Repr

/-- What the start sequence settles and the working copy it takes (R192, R194). Station number 0 is none. -/
structure Start where
  mode : Option StartMode
  cause : StartCause
  faultReason : Option FaultReason
  station : Nat
  profile : Profile
deriving DecidableEq, Repr

/-! ### Panel line (chapter 10) -/

/-- Outcome of a CALL report with what it carries (R181). -/
inductive CallOutcome where
  | queued (refreshed : Bool) (areas : List Nat)
  | done
  | unanswered
  | answered (area : Nat)
  | cancelled
  | dropped (reason : DropReason)
  | withdrawn
deriving DecidableEq, Repr

/-- A report (Table 10-4): its kind and contents. -/
inductive Report where
  | zone (entry : ViewEntry) (cause : Option Cause) (command : Option (HouseCommand × Nat × Byte))
  | zoneAck (zone : Nat) (state : ZoneState) (acknowledged : Bool)
  | level (previous new : Nat)
  | firstZone (head : Option Nat)
  | phase (phase : Phase) (seq : Half) (origin : Nat)
  | curtain (entry : CurtainEntry) (stage : Option Nat)
  | curtainOwn (entry : CurtainEntry) (busy : Bool) (last : LastResult) (proof : ProofMark)
  | call (number : Nat) (outcome : CallOutcome) (origin : Nat)
  | lights (channel : Nat) (override : Override) (level : Nat) (pending : Option PendingCue)
  | isolation (zone : Nat) (event : IsolationEvent) (kind : IsolationKind) (minutes : Option Nat) (inForce : Bool)
  | loopPort (port : Port) (state : PortState)
  | loopJoin (join : JoinState)
  | loopIntegrity (integrity : Integrity)
  | loopPeerPresent (station : Nat) (ring : Ring)
  | loopPeerAbsent (station : Nat)
  | loopPeerRestarted (station : Nat)
  | stationFlags (flags : FaultFlags)
  | stationStart (station : Nat) (mode : StartMode) (cause : StartCause) (reason : Option FaultReason)
      (format : Byte) (imageLength : Half)
  | frameReject (reason : RejectReason) (kind tag : Option Byte)
deriving DecidableEq, Repr

/-- The station summary of SNAPSHOT STATION (Table 10-5). -/
structure StationSummary where
  station : Nat
  mode : StartMode
  cause : StartCause
  reason : Option FaultReason
  join : JoinState
  portA : PortState
  portB : PortState
  integrity : Integrity
  flags : FaultFlags
  level : Nat
  phase : Phase
  phaseSeq : Half
  phaseOrigin : Nat
  waiting : Nat
  overflow : Bool
deriving DecidableEq, Repr

/-- The data of an accepted SNAPSHOT (Table 10-5). Remaining times are in whole milliseconds, rounded up, which is the
model's choice (log 45); that of an isolation is in whole minutes (R73). -/
inductive Snapshot where
  | station (summary : StationSummary)
  | peer (entry : Peer)
  | line (record : LineRec)
  | zone (record : ZoneRec) (alarmed : Nat) (ackLeft investigationLeft isolationMinutes : Option Nat)
  | view (entry : ViewEntry)
  | first (zones : List Nat)
  | curtainOwn (governor : Governor) (travel : Travel)
  | curtain (entry : CurtainEntry)
  | light (channel : LightChannel) (period overrideTime : Nat)
  | library (definition : Option CallDef)
  | queue (record : Option CallRec)
  | channel (channel : DispatchChannel) (left : Option Nat)
deriving DecidableEq, Repr

/-- What a reply carries after its three bytes (R187, R190, R195). -/
inductive ReplyData where
  | none
  | snapshot (data : Snapshot)
  | bytes (address : Half) (data : List Byte)
deriving DecidableEq, Repr

/-- A reply (R187): the command's tag and kind, the answer, and its data. -/
structure Reply where
  tag : Byte
  kind : Byte
  answer : Answer
  data : ReplyData
deriving DecidableEq, Repr

/-- A frame of the station to the panel. -/
inductive PanelOut where
  | reply (reply : Reply)
  | report (report : Report)
deriving DecidableEq, Repr

/-- The receive frame assembler (R185); a state outside HUNT carries the moment its gap timer is due. -/
inductive Assembler where
  | outOfService
  | hunt
  | length (gapDue : Nat)
  | rest (m : Byte) (bytes : List Byte) (gapDue : Nat)
deriving DecidableEq, Repr

/-- A panel command with its fields as sent (Table 10-2). -/
inductive PanelCommand where
  | setPhase (phase : Byte)
  | alert (action : AlertAction) (zone : Byte)
  | house (command : HouseCommand)
  | isolate (zone kind : Byte) (minutes : Option Half)
  | deisolate (zone : Byte)
  | curtainRaise (curtain : Byte)
  | curtainResume (curtain : Byte)
  | curtain (action : CurtainAction) (curtain : Byte)
  | light (action : LightAction) (groups : Half)
  | lightsRelease
  | callStart (call : Byte)
  | callCancel (call : Byte)
  | callAck (call area : Byte)
  | loopTest (mode : Byte)
  | snapshot (topic item : Byte)
  | profileRead (address : Half) (count : Byte)
  | profileWrite (address : Half) (bytes : List Byte)
deriving DecidableEq, Repr

/-- What the checks of R186 make of a good frame's kind and body. -/
inductive Parsed where
  | unknownKind
  | badLength
  | command (c : PanelCommand)
deriving DecidableEq, Repr

/-- A good frame from the panel, read (R186). -/
structure GoodFrame where
  kind : Byte
  tag : Byte
  parsed : Parsed
deriving DecidableEq, Repr

/-- A profile access in course (R195): the command's tag, and what is read or written. -/
inductive Access where
  | read (tag : Byte) (address : Half) (count : Byte)
  | write (tag : Byte) (address : Half) (bytes : List Byte)
deriving DecidableEq, Repr

/-- The panel line. `access` is the profile access in course and `waiting` the good frame completed during it
(R186, R195). -/
structure Panel where
  assembler : Assembler
  replies : List Reply
  reports : List Report
  overflow : Bool
  tx : Option PanelOut
  access : Option Access
  waiting : Option GoodFrame
deriving DecidableEq, Repr

/-! ### The station -/

/-- The whole state of the station. The last four fields are the model's own (log 1, log 9): the time base in
microseconds, the counter free values are read at, and the commands waiting, first in first out. -/
structure State where
  start : Start
  manager : Option ManagerPos
  engineer : Option EngineerPos
  loop : Loop
  notices : Notices
  lines : Lines
  zones : List ZoneRec
  house : House
  gov : Governor
  travel : Travel
  lights : Lights
  calls : Calls
  panel : Panel
  memory : List Host.Cell
  memoryAnswers : Bool
  now : Nat
  freeCount : Nat
  pending : List Instr
deriving DecidableEq, Repr

/-- Faults of a step. The spec gives the part no fault stop, so no command raises one: every command answers a
next state. The one constructor is kept for the interface's sake; nothing raises it, so it is safe. -/
inductive Fault where
  /-- No command raises it; safe, because it is never the outcome of a step. -/
  | none
deriving DecidableEq, Repr

/-- Refusals of a step. -/
inductive Refusal where
  /-- Kept for an arm of Machine/Dispatch.lean without a meaning; none is left, so nothing raises it; safe, because the
  machine would stop there. -/
  | notModelled (mnemonic : String)
deriving DecidableEq, Repr

/-! ### The state right after reset -/

/-- The moment 20 ms after the end of reset, when a silence timer started there is due (R15, R24). -/
def PortRec.reset : PortRec := ⟨.up, 20000, 0, none⟩

/-- R24. -/
def Loop.reset : Loop :=
  { join := .bypass, portA := PortRec.reset, portB := PortRec.reset,
    dirAB := ⟨.off, []⟩, dirBA := ⟨.off, []⟩, loneDue := some 500000 }

/-- A roster entry after reset (R44). -/
def Peer.reset (n : Nat) : Peer :=
  ⟨n, .absent, none, none, none, false, none, none⟩

/-- R44. -/
def Notices.reset : Notices :=
  { queue := [], nextAge := 0, ownSeq := 0, commandSeq := 0, awaiting := [], integrity := .whole,
    roundCount := 0, roundDue := none, roster := (List.range 63).map fun i => Peer.reset (i + 1) }

/-- A line record until the settling takes its kind (R46, R72). -/
def LineRec.reset (n : Nat) : LineRec := ⟨n, .unused, 0, none, 0, .unused, false⟩

/-- R72. -/
def Lines.reset : Lines :=
  { records := (List.range 32).map fun i => LineRec.reset (i + 1), sampleDue := none }

/-- A zone view entry until the settling takes its owner (R104). -/
def ViewEntry.reset (z : Nat) : ViewEntry := ⟨z, 0, .quiet, false, none, false⟩

/-- A curtain summary entry that is unknown to this station (R104; the fields beside station and present: log 29). -/
def CurtainEntry.reset (n : Nat) : CurtainEntry := ⟨n, 0, .down, 0, false, none, false⟩

/-- R104. -/
def House.reset : House :=
  { view := (List.range 49).map ViewEntry.reset, firstAlarm := [],
    curtains := (List.range 4).map fun i => CurtainEntry.reset (i + 1),
    flags := ⟨false, false, false, false⟩, level := 0,
    phase := .closed, phaseSeq := 0, phaseOrigin := 0 }

/-- R107 and R130 before the settling, with the limits as read at the end of the reset (R105). The descent start
position is unknown until a descent begins (DESIGN CHOICE, log 49). -/
def Governor.reset (downClosed upClosed : Bool) : Governor :=
  { curtain := 0, state := .down, lastResult := .none, error := none, proofMark := .none, proven := false,
    descentStart := none, raiseMicros := 0, downClosed := downClosed, upClosed := upClosed, raiseKey := false }

/-- R145, for a travel length in millimetres. -/
def Travel.reset (length : Nat) : Travel :=
  { previous := none, accumulator := length * 1000, known := false, displacement := 0, velocity := 0, stage := 0,
    overRun := 0, underRun := 0, elapsed := 0, closure := 0, lateRun := 0, overspeedFound := false,
    lateFound := false, raiseOver := 0, raiseUnder := 0, sampleDue := none }

/-- A light channel until the settling takes its profile fields (R162), and a channel that it does not take into use for the whole
run (log 54): its counter is 0, so its first wrap comes one period of the working copy later (log 7, log 31). -/
def LightChannel.reset (n : Nat) : LightChannel :=
  { number := n, inUse := false, group := 0, curve := .linear, safety := false, floor := 0, level := 0, fade := none,
    override := .none, pending := none, wrapDue := 100, compareReg := 0, compareBuf := 0 }

/-- R162. -/
def Lights.reset : Lights :=
  { channels := (List.range 12).map fun i => LightChannel.reset (i + 1), tickDue := none }

/-- A dispatch channel until the settling takes its profile fields (R183), and a channel that it does not take into use for the
whole run (log 54). -/
def DispatchChannel.reset (n : Nat) : DispatchChannel := ⟨n, false, 1, false, .idle, none, 0⟩

/-- R183. -/
def Calls.reset : Calls :=
  { library := [], queue := [], nextStamp := 0, evacuation := none,
    channels := (List.range 8).map fun i => DispatchChannel.reset (i + 1) }

/-- The working copy before one is read: what sections of zero bytes give, after the clampings and defaults of
R54, R132 and R146 (DESIGN CHOICE, log 7). -/
def Profile.reset : Profile :=
  { zoneMap := List.replicate 48 0, library := [], phaseCalls := List.replicate 6 0, warningCall := 0, curtain := 0,
    params := ⟨50, 2000, 0, 100, 50, 50, 10000, false⟩,
    lines := List.replicate 32 (.smoke, 0), investigable := [], ackWindow := 30, investigation := 180,
    lights := List.replicate 12 ⟨false, 0, .linear, false, 0⟩, period := 100, overrideTime := 20,
    sounders := List.replicate 8 ⟨false, 1, false⟩ }

/-- R192 before the settling. -/
def Start.reset (cause : StartCause) : Start :=
  { mode := none, cause := cause, faultReason := none, station := 0, profile := Profile.reset }

/-- R191. -/
def Panel.reset : Panel :=
  { assembler := .outOfService, replies := [], reports := [], overflow := false, tx := none, access := none,
    waiting := none }

/-- Every block right after a reset of the given cause, with the limit switches as read then, around the
configuration memory, which a reset keeps (R195). -/
def State.afterReset (cause : StartCause) (downClosed upClosed : Bool) (memory : List Host.Cell)
    (memoryAnswers : Bool) (freeCount : Nat) (pending : List Instr) : State :=
  { start := Start.reset cause, manager := none, engineer := none, loop := Loop.reset, notices := Notices.reset,
    lines := Lines.reset, zones := [], house := House.reset, gov := Governor.reset downClosed upClosed,
    travel := Travel.reset Profile.reset.params.length, lights := Lights.reset, calls := Calls.reset,
    panel := Panel.reset, memory := memory, memoryAnswers := memoryAnswers, now := 0, freeCount := freeCount,
    pending := pending }

/-- The station right after its power-on reset, with nothing ever written into the configuration memory
(log 5, log 7, log 32). -/
def State.reset : State := State.afterReset .powerOn false false [] true 0 []

end Sys2Proof.Machine
end

