-- ==== Sys2Proof/Machine/Operands.lean ====
section
/-! DEFINITION. How fields are coded: codes of enumerations (Table 2-3), two-byte fields, sets, notice bodies
(R26, R37), loop frames with their check sequence (R4, R5, R6), and the wrapping comparison of sequences
(00_scope 5.3). -/
namespace Sys2Proof.Machine

/-! ### Bytes -/

/-- A number as one byte. -/
def byteOf (n : Nat) : Byte := BitVec.ofNat 8 n

/-- A two-byte field, high byte first (00_scope 5.1). -/
def halfBytes (h : Half) : List Byte := [h.extractLsb' 8 8, h.extractLsb' 0 8]

/-- The two-byte field of a high and a low byte. -/
def joinHalf (hi lo : Byte) : Half := hi ++ lo

/-- A number of up to 65,535 as a two-byte field. -/
def halfOf (n : Nat) : List Byte := halfBytes (BitVec.ofNat 16 n)

/-- A flag that stands alone (R26). -/
def flagByte (b : Bool) : Byte := if b then 1 else 0

/-- A flag byte holds 0 or 1 (R37). -/
def flagOf (b : Byte) : Option Bool :=
  if b = 0 then some false else if b = 1 then some true else none

/-- A value when a check holds. -/
def check {α : Type} (ok : Bool) (a : α) : Option α := if ok then some a else none

/-- Member g of a set coded with bit g (R26). -/
def hasBit {w : Nat} (set : BitVec w) (g : Nat) : Bool := set.getLsbD g

/-- Area a, 1 to 8, is a member of an area set when bit a - 1 is set (R26). -/
def hasArea (set : Byte) (a : Nat) : Bool := 1 ≤ a && a ≤ 8 && hasBit set (a - 1)

/-- Areas 1 to 8. -/
def allAreas : List Nat := [1, 2, 3, 4, 5, 6, 7, 8]

/-- The areas of a set in rising order. -/
def areasOf (set : Byte) : List Nat := allAreas.filter (hasArea set)

/-- The area set of a list of areas (R26). -/
def areaSet (areas : List Nat) : Byte :=
  areas.foldl (fun s a => s ||| ((1 : Byte) <<< (a - 1))) 0

/-- A value n is newer than a value o of the same width k when n - o modulo 2^k lies in 1 to 2^(k-1) - 1
(00_scope 5.3). -/
def newer {k : Nat} (n o : BitVec k) : Bool :=
  let d := (n - o).toNat
  1 ≤ d && d ≤ 2 ^ (k - 1) - 1

/-! ### Codes of Table 2-3 -/

/-- Zone state codes (Table 2-3). -/
def ZoneState.code : ZoneState → Byte
  | .quiet => 0
  | .fault => 1
  | .preAlarm => 2
  | .alert => 3
  | .confirmed => 4
  | .silenced => 5

/-- The zone state of a code. -/
def ZoneState.ofCode (b : Byte) : Option ZoneState :=
  if b = 0 then some .quiet else if b = 1 then some .fault else if b = 2 then some .preAlarm
  else if b = 3 then some .alert else if b = 4 then some .confirmed else if b = 5 then some .silenced else none

/-- Cause codes (Table 2-3). -/
def Cause.code : Cause → Byte
  | .smoke => 0
  | .heat => 1
  | .manual => 2
  | .coincidence => 3
  | .ackExpiry => 4
  | .investigationExpiry => 5
  | .confirmedByPanel => 6
  | .notInvestigable => 7
  | .reset => 8
  | .cancel => 9
  | .fault => 10

/-- The cause of a code. -/
def Cause.ofCode (b : Byte) : Option Cause :=
  if b = 0 then some .smoke else if b = 1 then some .heat else if b = 2 then some .manual
  else if b = 3 then some .coincidence else if b = 4 then some .ackExpiry
  else if b = 5 then some .investigationExpiry else if b = 6 then some .confirmedByPanel
  else if b = 7 then some .notInvestigable else if b = 8 then some .reset else if b = 9 then some .cancel
  else if b = 10 then some .fault else none

/-- Alert action codes (Table 2-3). -/
def AlertAction.code : AlertAction → Byte
  | .ack => 0
  | .confirm => 1
  | .cancel => 2

/-- The alert action of a code. -/
def AlertAction.ofCode (b : Byte) : Option AlertAction :=
  if b = 0 then some .ack else if b = 1 then some .confirm else if b = 2 then some .cancel else none

/-- House command codes (Table 2-3). -/
def HouseCommand.code : HouseCommand → Byte
  | .evacuate => 0
  | .silence => 1
  | .houseReset => 2

/-- The house command of a code. -/
def HouseCommand.ofCode (b : Byte) : Option HouseCommand :=
  if b = 0 then some .evacuate else if b = 1 then some .silence else if b = 2 then some .houseReset else none

/-- Phase codes (Table 2-3). -/
def Phase.code : Phase → Byte
  | .closed => 0
  | .rehearsal => 1
  | .houseOpen => 2
  | .performance => 3
  | .interval => 4
  | .houseClear => 5

/-- The phase of a code. -/
def Phase.ofCode (b : Byte) : Option Phase :=
  if b = 0 then some .closed else if b = 1 then some .rehearsal else if b = 2 then some .houseOpen
  else if b = 3 then some .performance else if b = 4 then some .interval
  else if b = 5 then some .houseClear else none

/-- Curtain state codes (Table 2-3). -/
def CurtainState.code : CurtainState → Byte
  | .down => 0
  | .raising => 1
  | .raiseHeld => 2
  | .up => 3
  | .lowering => 4
  | .lowerHeld => 5
  | .dropping => 6
  | .stuck => 7

/-- The curtain state of a code. -/
def CurtainState.ofCode (b : Byte) : Option CurtainState :=
  if b = 0 then some .down else if b = 1 then some .raising else if b = 2 then some .raiseHeld
  else if b = 3 then some .up else if b = 4 then some .lowering else if b = 5 then some .lowerHeld
  else if b = 6 then some .dropping else if b = 7 then some .stuck else none

/-- Latched error codes, 0 for none (Table 2-3). -/
def errorCode : Option CurtainError → Byte
  | none => 0
  | some .overspeed => 1
  | some .stall => 2
  | some .raiseStall => 3
  | some .late => 4
  | some .limitDisagree => 5
  | some .raiseTimeout => 6

/-- The latched error, or none, of a code. -/
def errorOfCode (b : Byte) : Option (Option CurtainError) :=
  if b = 0 then some none else if b = 1 then some (some .overspeed) else if b = 2 then some (some .stall)
  else if b = 3 then some (some .raiseStall) else if b = 4 then some (some .late)
  else if b = 5 then some (some .limitDisagree) else if b = 6 then some (some .raiseTimeout) else none

/-- Curtain action codes (Table 2-3). -/
def CurtainAction.code : CurtainAction → Byte
  | .lower => 0
  | .stop => 1
  | .drop => 2
  | .proof => 3
  | .clearStatus => 4

/-- The curtain action of a code. -/
def CurtainAction.ofCode (b : Byte) : Option CurtainAction :=
  if b = 0 then some .lower else if b = 1 then some .stop else if b = 2 then some .drop
  else if b = 3 then some .proof else if b = 4 then some .clearStatus else none

/-- Port state codes (Table 2-3). -/
def PortState.code : PortState → Byte
  | .up => 0
  | .down => 1

/-- The port state of a code. -/
def PortState.ofCode (b : Byte) : Option PortState :=
  if b = 0 then some .up else if b = 1 then some .down else none

/-- Loop integrity codes (Table 2-3): CLOSED 0, OPEN 1. -/
def Integrity.code : Integrity → Byte
  | .whole => 0
  | .broken => 1

/-- The loop integrity of a code. -/
def Integrity.ofCode (b : Byte) : Option Integrity :=
  if b = 0 then some .whole else if b = 1 then some .broken else none

/-! ### Notice bodies (R26, Table 2-2) -/

/-- Zone state and isolated flag in one byte (R26). -/
def stateByte (s : ZoneState) (isolated : Bool) : Byte := s.code + (if isolated then 128 else 0)

/-- A state-and-isolated byte holds 0 to 5 or 128 to 133 (R37). -/
def stateOfByte (b : Byte) : Option (ZoneState × Bool) :=
  if b.toNat < 128 then (ZoneState.ofCode b).map fun s => (s, false)
  else (ZoneState.ofCode (b - 128)).map fun s => (s, true)

/-- The three bytes of a digest item. -/
def DigestItem.bytes (d : DigestItem) : List Byte :=
  [byteOf d.zone, stateByte d.state d.isolated, d.epoch]

/-- Curtain number, state, position, proven and latched error (Table 2-2). -/
def CurtainSummary.bytes (c : CurtainSummary) : List Byte :=
  byteOf c.curtain :: c.state.code :: (halfOf c.position ++ [flagByte c.proven, errorCode c.error])

/-- The body of a PRESENCE (Table 2-2). -/
def Presence.bytes (p : Presence) : List Byte :=
  [byteOf p.roles.curtain, byteOf p.roles.lines, byteOf p.roles.channels, byteOf p.roles.sounders,
   p.portA.code, p.portB.code, p.integrity.code, byteOf p.level, p.phase.code]
  ++ halfBytes p.phaseSeq ++ [byteOf p.phaseOrigin, flagByte p.fresh, byteOf p.digest.length]
  ++ (p.digest.flatMap DigestItem.bytes)
  ++ (match p.summary with | none => [] | some c => c.bytes)

/-- The body of a CALL, and a definition in the profile image (Table 2-2, Table 11-2). -/
def CallDef.bytes (c : CallDef) : List Byte :=
  [byteOf c.number, byteOf c.pattern, c.areas, byteOf c.repeats] ++ halfOf c.interval
  ++ [byteOf c.priority, byteOf c.group, flagByte c.ackWanted + (if c.dropOnAlarm then 2 else 0)]

/-- Group set, action and the fields the action carries (Table 2-2). -/
def LightAction.bytes : LightAction → List Byte
  | .cue target time => 0 :: (halfBytes target ++ halfBytes time)
  | .hold => [1]
  | .resume => [2]
  | .retime time => 3 :: halfBytes time

/-- The kind code of a notice (Table 1-2). -/
def Notice.kindCode : Notice → Byte
  | .presence _ => 1
  | .zoneState _ _ => 2
  | .alertAction _ _ => 3
  | .houseCmd _ _ => 4
  | .phase _ _ => 5
  | .curtain _ _ => 6
  | .curtainReq _ _ => 7
  | .lightCue _ _ => 8
  | .call _ => 9
  | .callCancel _ => 10
  | .callAck _ _ => 11

/-- The body of a notice (R26, Table 2-2). -/
def Notice.body : Notice → List Byte
  | .presence p => p.bytes
  | .zoneState d c => d.bytes ++ [c.code]
  | .alertAction z a => [byteOf z, a.code]
  | .houseCmd c s => [c.code, s]
  | .phase p s => p.code :: halfBytes s
  | .curtain c stage => c.bytes ++ [byteOf stage]
  | .curtainReq n a => [byteOf n, a.code]
  | .lightCue g a => halfBytes g ++ a.bytes
  | .call c => c.bytes
  | .callCancel n => [byteOf n]
  | .callAck n a => [byteOf n, byteOf a]

/-- One digest item, well formed (R37): zone 1 to 48, a state-and-isolated byte of the allowed values. -/
def DigestItem.parse (zone state epoch : Byte) : Option DigestItem := do
  let (s, iso) ← stateOfByte state
  check (1 ≤ zone.toNat && zone.toNat ≤ 48) ⟨zone.toNat, s, iso, epoch⟩

/-- k digest items and what follows them. -/
def parseDigest : Nat → List Byte → Option (List DigestItem × List Byte)
  | 0, rest => some ([], rest)
  | k + 1, z :: s :: e :: rest => do
    let d ← DigestItem.parse z s e
    let (ds, rest') ← parseDigest k rest
    return (d :: ds, rest')
  | _ + 1, _ => none

/-- A curtain summary, well formed (R37): curtain number 1 to 4, position 0 to 25,000. -/
def CurtainSummary.parse (n st hi lo pr er : Byte) : Option CurtainSummary := do
  let s ← CurtainState.ofCode st
  let proven ← flagOf pr
  let error ← errorOfCode er
  let pos := (joinHalf hi lo).toNat
  check (1 ≤ n.toNat && n.toNat ≤ 4 && pos ≤ 25000) ⟨n.toNat, s, pos, proven, error⟩

/-- The optional curtain summary at the end of a PRESENCE; the body's length tells whether it is there (R26). One
that is there needs a curtain number among the roles (R37). -/
def parseSummary (curtain : Byte) : List Byte → Option (Option CurtainSummary)
  | [] => some none
  | [n, st, hi, lo, pr, er] =>
    if curtain = 0 then none else (CurtainSummary.parse n st hi lo pr er).map some
  | _ => none

/-- The body of a PRESENCE, well formed (R37). -/
def Presence.parse : List Byte → Option Presence
  | cu :: li :: ch :: so :: pa :: pb :: ig :: lv :: ph :: qh :: ql :: og :: fr :: k :: rest => do
    let portA ← PortState.ofCode pa
    let portB ← PortState.ofCode pb
    let integrity ← Integrity.ofCode ig
    let phase ← Phase.ofCode ph
    let fresh ← flagOf fr
    let (digest, rest') ← if k.toNat ≤ 8 then parseDigest k.toNat rest else none
    let summary ← parseSummary cu rest'
    check (cu.toNat ≤ 4 && li.toNat ≤ 32 && ch.toNat ≤ 12 && so.toNat ≤ 8 && lv.toNat ≤ 5 && og.toNat ≤ 63)
      { roles := ⟨cu.toNat, li.toNat, ch.toNat, so.toNat⟩, portA, portB, integrity, level := lv.toNat, phase,
        phaseSeq := joinHalf qh ql, phaseOrigin := og.toNat, fresh, digest, summary }
  | _ => none

/-- The body of a CALL, well formed (R37): every number in the range of Table 2-1, the flags 0 to 3. -/
def CallDef.parse : List Byte → Option CallDef
  | [n, pt, ar, rp, ih, il, pr, gr, fl] =>
    let interval := (joinHalf ih il).toNat
    check (1 ≤ n.toNat && n.toNat ≤ 250 && pt.toNat ≤ 14 && 1 ≤ rp.toNat && 1 ≤ interval && interval ≤ 600
        && 1 ≤ pr.toNat && pr.toNat ≤ 7 && gr.toNat ≤ 3 && fl.toNat ≤ 3)
      ⟨n.toNat, pt.toNat, ar, rp.toNat, interval, pr.toNat, gr.toNat, hasBit fl 0, hasBit fl 1⟩
  | _ => none

/-- Action and fields of a LIGHT_CUE (R26). -/
def LightAction.parse : List Byte → Option LightAction
  | [a, th, tl, mh, ml] => if a = 0 then some (.cue (joinHalf th tl) (joinHalf mh ml)) else none
  | [a] => if a = 1 then some .hold else if a = 2 then some .resume else none
  | [a, mh, ml] => if a = 3 then some (.retime (joinHalf mh ml)) else none
  | _ => none

/-- A zone number, 1 to 48. -/
def zoneOfByte (b : Byte) : Option Nat := check (1 ≤ b.toNat && b.toNat ≤ 48) b.toNat

/-- A call number, 1 to 250. -/
def callOfByte (b : Byte) : Option Nat := check (1 ≤ b.toNat && b.toNat ≤ 250) b.toNat

/-- The notice of a kind and a body, or none where the kind is unknown or the body is not well formed (R37). -/
def Notice.parse (kind : Byte) (body : List Byte) : Option Notice :=
  if kind = 1 then (Presence.parse body).map .presence
  else if kind = 2 then
    match body with
    | [z, s, e, c] => do
      let d ← DigestItem.parse z s e
      let cause ← Cause.ofCode c
      return .zoneState d cause
    | _ => none
  else if kind = 3 then
    match body with
    | [z, a] => do
      let zone ← zoneOfByte z
      let action ← AlertAction.ofCode a
      return .alertAction zone action
    | _ => none
  else if kind = 4 then
    match body with
    | [c, s] => (HouseCommand.ofCode c).map fun command => .houseCmd command s
    | _ => none
  else if kind = 5 then
    match body with
    | [p, h, l] => (Phase.ofCode p).map fun phase => .phase phase (joinHalf h l)
    | _ => none
  else if kind = 6 then
    match body with
    | [n, st, hi, lo, pr, er, dm] => do
      let c ← CurtainSummary.parse n st hi lo pr er
      check (dm.toNat ≤ 3) (.curtain c dm.toNat)
    | _ => none
  else if kind = 7 then
    match body with
    | [n, a] => do
      let action ← CurtainAction.ofCode a
      check (1 ≤ n.toNat && n.toNat ≤ 4) (.curtainReq n.toNat action)
    | _ => none
  else if kind = 8 then
    match body with
    | h :: l :: rest => (LightAction.parse rest).map fun a => .lightCue (joinHalf h l) a
    | _ => none
  else if kind = 9 then (CallDef.parse body).map .call
  else if kind = 10 then
    match body with
    | [n] => (callOfByte n).map .callCancel
    | _ => none
  else if kind = 11 then
    match body with
    | [n, a] => do
      let number ← callOfByte n
      check (1 ≤ a.toNat && a.toNat ≤ 8) (.callAck number a.toNat)
    | _ => none
  else none

/-! ### Which notices a body can carry (the ranges of Table 2-1) -/

/-- A digest item within the ranges of Table 2-1. -/
def DigestItem.inRange (d : DigestItem) : Bool := 1 ≤ d.zone && d.zone ≤ 48

/-- A curtain summary within the ranges of Table 2-1. -/
def CurtainSummary.inRange (c : CurtainSummary) : Bool :=
  1 ≤ c.curtain && c.curtain ≤ 4 && c.position ≤ 25000

/-- A PRESENCE within the ranges of Table 2-1. -/
def Presence.inRange (p : Presence) : Bool :=
  p.roles.curtain ≤ 4 && p.roles.lines ≤ 32 && p.roles.channels ≤ 12 && p.roles.sounders ≤ 8 && p.level ≤ 5
  && p.phaseOrigin ≤ 63 && p.digest.length ≤ 8 && p.digest.all DigestItem.inRange
  && (match p.summary with | none => true | some c => p.roles.curtain != 0 && c.inRange)

/-- A call definition within the ranges of Table 2-1. -/
def CallDef.inRange (c : CallDef) : Bool :=
  1 ≤ c.number && c.number ≤ 250 && c.pattern ≤ 14 && 1 ≤ c.repeats && c.repeats ≤ 255 && 1 ≤ c.interval
  && c.interval ≤ 600 && 1 ≤ c.priority && c.priority ≤ 7 && c.group ≤ 3

/-- A notice whose every number lies in the range Table 2-1 gives it. -/
def Notice.inRange : Notice → Bool
  | .presence p => p.inRange
  | .zoneState d _ => d.inRange
  | .alertAction z _ => 1 ≤ z && z ≤ 48
  | .houseCmd _ _ => true
  | .phase _ _ => true
  | .curtain c stage => c.inRange && stage ≤ 3
  | .curtainReq n _ => 1 ≤ n && n ≤ 4
  | .lightCue _ _ => true
  | .call c => c.inRange
  | .callCancel n => 1 ≤ n && n ≤ 250
  | .callAck n a => 1 ≤ n && n ≤ 250 && 1 ≤ a && a ≤ 8

/-! ### Loop frames (R4, R5, R6) -/

/-- One bit of the check register: shift left, and take the polynomial x^16 + x^12 + x^5 + 1 where a one leaves it
(R4). -/
def crcShift (c : Half) : Half := if c.msb then (c <<< 1) ^^^ 0x1021 else c <<< 1

/-- One byte into the check register, most significant bit first (R4). -/
def crcByte (c : Half) (b : Byte) : Half :=
  crcShift (crcShift (crcShift (crcShift (crcShift (crcShift (crcShift (crcShift
    (c ^^^ (b ++ (0 : Byte))))))))))

/-- The check sequence of a run of bytes, from a register of all ones (R4). -/
def crc16 (bytes : List Byte) : Half := bytes.foldl crcByte 0xFFFF

/-- Header and body of a frame (Table 1-1). -/
def Frame.headAndBody (f : Frame) : List Byte :=
  f.origin :: f.seq :: f.hop :: f.kind :: byteOf f.body.length :: f.body

/-- The bytes of a frame between its opening and closing marks (Table 1-1). -/
def Frame.bytes (f : Frame) : List Byte := f.headAndBody ++ halfBytes (crc16 f.headAndBody)

/-- The checks of R6 on the bytes a frame holds at its closing mark: the good frame, or none. -/
def Frame.ofBytes : List Byte → Option Frame
  | o :: s :: h :: k :: n :: rest =>
    check (rest.length == n.toNat + 2 && n.toNat ≤ 48 && 1 ≤ o.toNat && o.toNat ≤ 63 && h.toNat ≤ 63
        && rest.drop n.toNat == halfBytes (crc16 (o :: s :: h :: k :: n :: rest.take n.toNat)))
      ⟨o, s, h, k, rest.take n.toNat⟩
  | _ => none

/-- A frame repeated: its hop budget one less, all else the same; the check sequence is computed afresh from the
fields (R5). -/
def Frame.lowered (f : Frame) : Frame := { f with hop := f.hop - 1 }

/-- The frame of an insertion (R5). -/
def Notice.frame (n : Notice) (station : Nat) (seq : Byte) : Frame :=
  { origin := byteOf station, seq := seq, hop := 63, kind := n.kindCode, body := n.body }

/-- The time a frame takes on the line: its bytes and its two marks, 10 microseconds each (R2). -/
def Frame.micros (f : Frame) : Nat := (f.body.length + 7 + 2) * 10

end Sys2Proof.Machine
end

