-- ==== Sys2Proof/Machine/Flags.lean ====
section
/-! DEFINITION. Levels and flags: zone levels (R71), the station fault level (R94) and the house level they give
(R95); which key positions count as turned (R76). -/
namespace Sys2Proof.Machine

/-- The level of a zone state (Table 3-6). -/
def ZoneState.level : ZoneState → Nat
  | .quiet => 0
  | .fault => 1
  | .preAlarm => 2
  | .alert => 3
  | .silenced => 4
  | .confirmed => 5

/-- QUIET, FAULT and PRE_ALARM are the quiet states (R53). -/
def ZoneState.isQuiet : ZoneState → Bool
  | .quiet => true
  | .fault => true
  | .preAlarm => true
  | .alert => false
  | .confirmed => false
  | .silenced => false

/-- A zone's level: at least 1 where the isolated attribute is set (R71, R87). -/
def ViewEntry.level (v : ViewEntry) : Nat := if v.isolated then max 1 v.state.level else v.state.level

/-- The station fault level is 1 while any flag is set (R94). -/
def FaultFlags.level (f : FaultFlags) : Nat :=
  if f.portADown || f.portBDown || f.loopOpen || f.curtainFault then 1 else 0

/-- The greatest of the zone levels of a view. -/
def viewLevel (view : List ViewEntry) : Nat := view.foldr (fun v m => max v.level m) 0

/-- The maximum of the zone levels of all entries and of the station fault level (R95). -/
def House.computedLevel (h : House) : Nat := max (viewLevel h.view) h.flags.level

/-- The flag of a port (R94). -/
def FaultFlags.setPort (f : FaultFlags) (p : Port) (down : Bool) : FaultFlags :=
  match p with
  | .a => { f with portADown := down }
  | .b => { f with portBDown := down }

/-- RAISING, LOWERING and DROPPING are the moving states (R106). -/
def CurtainState.isMoving : CurtainState → Bool
  | .raising => true
  | .lowering => true
  | .dropping => true
  | .down => false
  | .raiseHeld => false
  | .up => false
  | .lowerHeld => false
  | .stuck => false

/-- LOWERING and DROPPING are the descending states (R106). -/
def CurtainState.isDescending : CurtainState → Bool
  | .lowering => true
  | .dropping => true
  | .down => false
  | .raising => false
  | .raiseHeld => false
  | .up => false
  | .lowerHeld => false
  | .stuck => false

/-- Busy follows the state (R108). -/
def Governor.busy (g : Governor) : Bool := g.state.isMoving

/-- Hold-off output (Table 6-1): on where the brake holds the curtain or the motor lifts it. -/
def Governor.holdOff (g : Governor) : Bool :=
  match g.state with
  | .raising => true
  | .raiseHeld => true
  | .up => true
  | .lowerHeld => true
  | .down => false
  | .lowering => false
  | .dropping => false
  | .stuck => false

/-- Motor-up output (Table 6-1): on in RAISING alone. -/
def Governor.motorUp (g : Governor) : Bool := g.state == .raising

/-- Damper stage output (R106): the supervisor's stage in the descending states, 0 in every other. -/
def damperOutput (g : Governor) (t : Travel) : Nat := if g.state.isDescending then t.stage else 0

/-- Positions of the limit pair (R105). -/
inductive LimitPair where
  | downArrival
  | upArrival
  | disagreement
  | clear
deriving DecidableEq, Repr

/-- The limit pair as the governor holds it (R105). -/
def Governor.pair (g : Governor) : LimitPair :=
  match g.downClosed, g.upClosed with
  | true, false => .downArrival
  | false, true => .upArrival
  | true, true => .disagreement
  | false, false => .clear

/-- The manager key counts as turned in ON; a key whose first position is not yet taken counts as OFF (R76). -/
def State.managerTurned (s : State) : Bool := s.manager == some .on

/-- The engineer key counts as turned in ON or SUSPEND (R76). -/
def State.engineerTurned (s : State) : Bool := s.engineer == some .on || s.engineer == some .suspend

/-- The engineer key is in its SUSPEND position (R73). -/
def State.suspended (s : State) : Bool := s.engineer == some .suspend

/-- The authorising key of an isolation: ENGINEER for SERVICE, MANAGER for SHOW (R73). -/
def IsolationKind.needsEngineer : IsolationKind → Bool
  | .show => false
  | .service => true

/-- Whether the key a kind of isolation needs is turned (R77, R80). -/
def State.keyTurnedFor (s : State) (k : IsolationKind) : Bool :=
  if k.needsEngineer then s.engineerTurned else s.managerTurned

/-- The relays are energised in join states ACTIVE and ECHO_TEST (R16). -/
def JoinState.relaysEnergised : JoinState → Bool
  | .active => true
  | .echoTest => true
  | .bypass => false
  | .selfTest => false

/-! ### What a transmitter sends and the lines carry (R2, R9, R16, R22) -/

/-- The symbols of a frame on the line: opening mark, data bytes, closing mark (R2). -/
def Frame.symbols (f : Frame) : List Symbol := .opening :: (f.bytes.map .data ++ [.closing])

/-- States of a transmitter (R9). -/
inductive TransmitterState where
  | off
  | gap
  | repeating
  | inserting
deriving DecidableEq, Repr

/-- The state of a transmitter (R9): an aborted insertion is in INSERT until its abort mark has been sent (Table 1-5). -/
def Transmitter.state (now : Nat) : Transmitter → TransmitterState
  | .off => .off
  | .gap _ => .gap
  | .sendRepeat _ _ => .repeating
  | .sendInsert _ _ => .inserting
  | .sendAbort _ _ mark => if now < mark then .inserting else .gap

/-- The moment two gap fill symbols will have been sent since the last frame, for a transmitter that is in GAP or will be
with no further event (R2, R12). -/
def Transmitter.ready : Transmitter → Option Nat
  | .gap ready => some ready
  | .sendAbort _ _ mark => some (mark + 20)
  | .off => none
  | .sendRepeat _ _ => none
  | .sendInsert _ _ => none

/-- The moment a frame's opening mark begins, from the moment its closing mark ends (R2). -/
def Frame.began (f : Frame) (done : Nat) : Nat := done - f.micros

/-- The symbol of a frame being sent at a moment; gap fill once its closing mark has been sent (R2). -/
def Frame.symbolAt (f : Frame) (done now : Nat) : Symbol := (f.symbols[(now - f.began done) / 10]?).getD .gapFill

/-- The symbol a transmitter is sending at a moment, or none where it is silent (R2, R9). -/
def Transmitter.sends (now : Nat) : Transmitter → Option Symbol
  | .off => none
  | .gap _ => some .gapFill
  | .sendRepeat f done => some (f.symbolAt done now)
  | .sendInsert f done => some (f.symbolAt done now)
  | .sendAbort f done mark =>
    if mark ≤ now then some .gapFill
    else if mark ≤ now + 10 then some .abort
    else some (f.symbolAt done now)

/-- What the outgoing line of a port carries (R16): with the relays energised, what the station's own transmitter for that
port sends; at rest, the other port's incoming line, straight through. -/
def Loop.outgoingLine (l : Loop) (now : Nat) (incoming : Port → Option Symbol) : Port → Option Symbol
  | .a => if l.join.relaysEnergised then l.dirBA.tx.sends now else incoming .b
  | .b => if l.join.relaysEnergised then l.dirAB.tx.sends now else incoming .a

/-- What the receiver of a port hears (R16, R22): its incoming line, or in SELF_TEST the transmitter of the ring that
arrives at the port. -/
def Loop.heardLine (l : Loop) (now : Nat) (incoming : Port → Option Symbol) : Port → Option Symbol
  | .a => if l.join = .selfTest then l.dirAB.tx.sends now else incoming .a
  | .b => if l.join = .selfTest then l.dirBA.tx.sends now else incoming .b

/-! ### Outputs of the fade engine and the dispatcher -/

/-- The period counter of a channel (R153): the period less the time to its next wrap; while a wrap that is due now is
still to be taken, P - 1. -/
def LightChannel.counter (period now : Nat) (c : LightChannel) : Nat :=
  if c.wrapDue ≤ now then period - 1 else period - (c.wrapDue - now)

/-- The dimmer output of a channel is on while its counter is below its compare buffer (R153). -/
def LightChannel.output (period now : Nat) (c : LightChannel) : Bool := c.counter period now < c.compareBuf

/-- The pattern a sounder plays, or none when it is silent (Table 9-2). -/
def DispatchChannel.sounder (c : DispatchChannel) : Option Nat :=
  match c.state with
  | .sounding pattern _ => some pattern
  | .idle => none
  | .interval _ => none

end Sys2Proof.Machine
end

