-- ==== Sys2Proof/Machine/Ops.lean ====
section
/-! DEFINITION. Shared operations: tables keyed by number, the time base, the configuration memory, one event
with the reports it makes, and the report buffer. -/
namespace Sys2Proof.Machine

/-! ### Tables -/

/-- The records of a table that meet a test, changed. -/
def update {α : Type} (test : α → Bool) (f : α → α) (l : List α) : List α :=
  l.map fun r => if test r then f r else r

/-- Place a record before the first one it may stand in front of. -/
def placeBefore {α : Type} (front : α → α → Bool) (x : α) : List α → List α
  | [] => [x]
  | y :: ys => if front x y then x :: y :: ys else y :: placeBefore front x ys

/-- A list put in order, records of equal standing kept in the order they had. -/
def inOrder {α : Type} (front : α → α → Bool) (l : List α) : List α :=
  l.foldr (placeBefore front) []

/-- The zone record of an owned zone. -/
def State.zone? (s : State) (z : Nat) : Option ZoneRec := s.zones.find? fun r => r.number == z

/-- The view entry of a zone. -/
def State.view? (s : State) (z : Nat) : Option ViewEntry := s.house.view.find? fun v => v.zone == z

/-- The roster entry of a station. -/
def State.peer? (s : State) (n : Nat) : Option Peer := s.notices.roster.find? fun p => p.number == n

/-- The curtain summary entry of a curtain number. -/
def State.curtain? (s : State) (n : Nat) : Option CurtainEntry :=
  s.house.curtains.find? fun c => c.curtain == n

/-- The light channel of a number. -/
def State.light? (s : State) (n : Nat) : Option LightChannel :=
  s.lights.channels.find? fun c => c.number == n

/-- The dispatch channel of a number. -/
def State.sounder? (s : State) (n : Nat) : Option DispatchChannel :=
  s.calls.channels.find? fun c => c.number == n

/-- The port of a number, and a change of it. -/
def Loop.port (l : Loop) : Port → PortRec
  | .a => l.portA
  | .b => l.portB

/-- The loop interface with one port's record replaced. -/
def Loop.setPort (l : Loop) (p : Port) (r : PortRec) : Loop :=
  match p with
  | .a => { l with portA := r }
  | .b => { l with portB := r }

/-- The direction of a ring. -/
def Loop.dir (l : Loop) : Ring → Direction
  | .ab => l.dirAB
  | .ba => l.dirBA

/-- The loop interface with one direction replaced. -/
def Loop.setDir (l : Loop) (r : Ring) (d : Direction) : Loop :=
  match r with
  | .ab => { l with dirAB := d }
  | .ba => { l with dirBA := d }

/-- The ring of a frame received on a port (R1). -/
def ringInto : Port → Ring
  | .a => .ab
  | .b => .ba

/-- The port on which the frames of a ring arrive (Table 1-0). -/
def upstreamPort : Ring → Port
  | .ab => .a
  | .ba => .b

/-- The port by which the frames of a ring leave (Table 1-0). -/
def outgoingPort : Ring → Port
  | .ab => .b
  | .ba => .a

/-- The owner the house-wide zone map gives a zone, 0 for none (R87); 0 outside zones 1 to 48. -/
def Profile.owner (p : Profile) (z : Nat) : Nat := if z = 0 then 0 else (p.zoneMap[z - 1]?).getD 0

/-- A zone outside 1 to 48, or given to no station, is unknown (R63, R77, R80). -/
def State.zoneKnown (s : State) (z : Nat) : Bool :=
  1 ≤ z && z ≤ 48 && s.start.profile.owner z != 0

/-- The station's governor has a curtain (R107). -/
def State.hasCurtain (s : State) : Bool := s.gov.curtain != 0

/-- Start mode NORMAL is settled (R192). -/
def State.isNormal (s : State) : Bool := s.start.mode == some .normal

/-! ### Time (log 1, log 2)

Milliseconds of the rules are thousands of the time base. -/

/-- 20 ms of silence (R15). -/
def silenceMicros : Nat := 20000

/-- 500 ms of the lone start (R18). -/
def loneMicros : Nat := 500000

/-- Two gap fill symbols (R2). -/
def gapMicros : Nat := 20

/-- One symbol (R2). -/
def symbolMicros : Nat := 10

/-- 100 ms of a return limit (R34). -/
def returnMicros : Nat := 100000

/-- 6,000 ms of the absence timer (R39). -/
def absenceMicros : Nat := 6000000

/-- 2,000 ms of a round (R42). -/
def roundMicros : Nat := 2000000

/-- 250 ms between samples (R47). -/
def lineSampleMicros : Nat := 250000

/-- 50 ms between periodic samples (R133). -/
def travelSampleMicros : Nat := 50000

/-- 20 ms between fade ticks (R148). -/
def fadeTickMicros : Nat := 20000

/-- 10 ms of the panel's gap timer (R185). -/
def panelGapMicros : Nat := 10000

/-- 90,000 ms of the raise time (R122). -/
def raiseLimitMicros : Nat := 90000000

/-- 300,000 ms of the isolation warning (R81). -/
def warningMicros : Nat := 300000000

/-- The raise time counts up while the state is RAISING and stands still in every other state (R122). -/
def Governor.elapse (d : Nat) (g : Governor) : Governor :=
  if g.state = .raising then { g with raiseMicros := min raiseLimitMicros (g.raiseMicros + d) } else g

/-- Time passes at a period counter until a moment (R153, R155): every wrap due before the moment is taken, and loads the
compare buffer from the register. A wrap due at the moment itself is still to be taken, so that either order of it and
another event of that moment can be run (log 31). -/
def LightChannel.elapse (period now : Nat) (c : LightChannel) : LightChannel :=
  if now ≤ c.wrapDue then c
  else { c with
    wrapDue := c.wrapDue + (now - c.wrapDue + period - 1) / period * period
    compareBuf := c.compareReg }

/-- d microseconds pass. -/
def State.elapse (d : Nat) (s : State) : State :=
  { s with
    now := s.now + d
    gov := s.gov.elapse d
    lights := { s.lights with channels := s.lights.channels.map (LightChannel.elapse s.start.profile.period (s.now + d)) } }

/-- Time moves on to the moment an event is due; an event that is due already moves nothing (log 2). -/
def State.elapseTo (due : Nat) (s : State) : State :=
  if due ≤ s.now then s else s.elapse (due - s.now)

/-- Whole milliseconds left until a moment, rounded up: unit and rounding are the model's choice (log 45). -/
def millisLeft (now due : Nat) : Nat := (due - now + 999) / 1000

/-- Whole minutes left until a moment, rounded up (R73, R85). -/
def minutesLeft (now due : Nat) : Nat := (due - now + 59999999) / 60000000

/-- Minutes left of an isolation record, absent for a record without remaining time (R85). -/
def IsolationRec.minutes (now : Nat) (r : IsolationRec) : Option Nat := r.expiry.map (minutesLeft now)

/-! ### The configuration memory (R193, R195, log 5) -/

/-- The memory's size in bytes (R195). -/
def memorySize : Nat := 4096

/-- What an address that nothing has written reads as (log 5). -/
def erasedByte : Byte := 0xFF

/-- The byte at an address. -/
def Memory.read (m : List Host.Cell) (a : Nat) : Byte :=
  match m with
  | [] => erasedByte
  | (k, b) :: rest => if k = a then b else Memory.read rest a

/-- A byte written at an address, the list kept with rising addresses and without erased bytes. -/
def Memory.write (m : List Host.Cell) (a : Nat) (b : Byte) : List Host.Cell :=
  match m with
  | [] => if b = erasedByte then [] else [(a, b)]
  | (k, c) :: rest =>
    if k < a then (k, c) :: Memory.write rest a b
    else if k = a then (if b = erasedByte then rest else (a, b) :: rest)
    else if b = erasedByte then (k, c) :: rest
    else (a, b) :: (k, c) :: rest

/-- A run of bytes written from an address upward. -/
def Memory.writeAll (m : List Host.Cell) (a : Nat) : List Byte → List Host.Cell
  | [] => m
  | b :: bs => Memory.writeAll (Memory.write m a b) (a + 1) bs

/-- n bytes read from an address upward. -/
def Memory.readAll (m : List Host.Cell) (a n : Nat) : List Byte :=
  (List.range n).map fun i => Memory.read m (a + i)

/-- The canonical form, above a lower bound: addresses strictly rising and below the memory's size, and no byte that
an unlisted address reads as. -/
def Memory.wfFrom (low : Nat) : List Host.Cell → Bool
  | [] => true
  | (k, b) :: rest => low ≤ k && k < memorySize && b != erasedByte && Memory.wfFrom (k + 1) rest

/-- The canonical form of the configuration memory. -/
def Memory.wf (m : List Host.Cell) : Bool := Memory.wfFrom 0 m

/-! ### One event

An event works on the state, gathers the reports it makes, and remembers the governor as the event found it, whether
DROPPING was entered (R129), and whether the join state first became ACTIVE (R42). `finish` (Machine/Event.lean) ends
it. -/

/-- An event in course. -/
structure Ev where
  s : State
  made : List Report
  before : Governor
  dropped : Bool
  joined : Bool
deriving DecidableEq, Repr

/-- An event begins. -/
def Ev.start (s : State) : Ev := ⟨s, [], s.gov, false, false⟩

/-- A report is made (R188). -/
def Ev.report (e : Ev) (r : Report) : Ev := { e with made := e.made ++ [r] }

/-- Several reports are made, in this order. -/
def Ev.reports (e : Ev) (rs : List Report) : Ev := { e with made := e.made ++ rs }

/-- A report made only where there is one. -/
def Ev.reportIf (e : Ev) (ok : Bool) (r : Report) : Ev := if ok then e.report r else e

/-- A part of the event that changes the state alone. -/
def Ev.on (e : Ev) (f : State → State) : Ev := { e with s := f e.s }

/-- Parts of an event taken one after another over a list. -/
def Ev.each {α : Type} (e : Ev) (l : List α) (f : Ev → α → Ev) : Ev := l.foldl f e

/-! ### The report buffer (R189) -/

/-- Where a report stands among those made in one event (R189): the class, and within it the number of the zone, the
curtain or the channel. -/
def Report.place : Report → Nat × Nat
  | .stationStart _ _ _ _ _ _ => (0, 0)
  | .loopPort _ _ => (1, 0)
  | .loopJoin _ => (1, 0)
  | .loopIntegrity _ => (1, 0)
  | .loopPeerPresent _ _ => (1, 0)
  | .loopPeerAbsent _ => (1, 0)
  | .loopPeerRestarted _ => (1, 0)
  | .zone v _ _ => (2, v.zone)
  | .zoneAck z _ _ => (2, z)
  | .isolation z _ _ _ _ => (3, z)
  | .firstZone _ => (4, 0)
  | .phase _ _ _ => (5, 0)
  | .curtain c _ => (6, c.curtain)
  | .curtainOwn c _ _ _ => (6, c.curtain)
  | .stationFlags _ => (7, 0)
  | .level _ _ => (8, 0)
  | .lights c _ _ _ => (9, c)
  | .call _ _ _ => (10, 0)
  | .frameReject _ _ _ => (11, 0)

/-- A report stands before another, or level with it. -/
def Report.notAfter (r t : Report) : Bool :=
  r.place.1 < t.place.1 || (r.place.1 == t.place.1 && r.place.2 ≤ t.place.2)

/-- One report joins the buffer; one made while the buffer holds 32 is discarded and the overflow flag is set
(R189). -/
def Panel.addReport (p : Panel) (r : Report) : Panel :=
  if p.reports.length < 32 then { p with reports := p.reports ++ [r] } else { p with overflow := true }

/-- The reports made in one event join the buffer in the order of R189. -/
def Panel.addReports (p : Panel) (made : List Report) : Panel :=
  (inOrder Report.notAfter made).foldl Panel.addReport p

/-- The event's reports join the buffer. -/
def Ev.buffer (e : Ev) : State := { e.s with panel := e.s.panel.addReports e.made }

/-- A command's outcome when its event has ended. The queue of commands is not the command's to change. -/
def next (s : State) : Host.Outcome State Fault Refusal := .next s

end Sys2Proof.Machine
end

