-- ==== Sys2Proof/Machine/Notices.lean ====
section
/-! DEFINITION. The sending side of the notice unit: the transmit queue (R29 to R31, R14), the awaiting-return list
(R32 to R34) and loop integrity (R35), with the station fault flags (R94). -/
namespace Sys2Proof.Machine

/-! ### Notice levels and groups (Table 2-4) -/

/-- CONFIRMED and SILENCED are the zone states of notice level 7. -/
def ZoneState.isUrgent : ZoneState → Bool
  | .confirmed => true
  | .silenced => true
  | .quiet => false
  | .fault => false
  | .preAlarm => false
  | .alert => false

/-- DROPPING and STUCK are the curtain states of notice group 3. -/
def CurtainState.isUrgent : CurtainState → Bool
  | .dropping => true
  | .stuck => true
  | .down => false
  | .raising => false
  | .raiseHeld => false
  | .up => false
  | .lowering => false
  | .lowerHeld => false

/-- Notice level (Table 2-4). -/
def Notice.level : Notice → Nat
  | .houseCmd _ _ => 7
  | .zoneState d _ => if d.state.isUrgent then 7 else 5
  | .alertAction _ _ => 7
  | .curtain _ _ => 6
  | .curtainReq _ _ => 6
  | .phase _ _ => 4
  | .lightCue _ _ => 3
  | .call _ => 2
  | .callCancel _ => 2
  | .callAck _ _ => 2
  | .presence _ => 1

/-- Notice group (Table 2-4). -/
def Notice.group : Notice → Nat
  | .houseCmd _ _ => 3
  | .zoneState _ _ => 2
  | .alertAction _ _ => 1
  | .curtain c _ => if c.state.isUrgent then 3 else 1
  | .curtainReq _ _ => 2
  | .phase _ _ => 1
  | .lightCue _ _ => 1
  | .call _ => 1
  | .callCancel _ => 1
  | .callAck _ _ => 1
  | .presence _ => 0

/-! ### The transmit queue -/

/-- Higher notice level first, then higher notice group, then older (R29). -/
def TxEntry.inFront (a b : TxEntry) : Bool :=
  b.notice.level < a.notice.level
  || (a.notice.level == b.notice.level
      && (b.notice.group < a.notice.group || (a.notice.group == b.notice.group && a.age ≤ b.age)))

/-- A new notice merges with a queued one (R30): a ZONE_STATE of the same zone, or a PRESENCE. -/
def Notice.mergesWith : Notice → Notice → Bool
  | .zoneState d _, .zoneState d' _ => d.zone == d'.zone
  | .presence _, .presence _ => true
  | _, _ => false

/-- An entry counts as inserted on a ring once marked, and for as long as the ring's outgoing port is DOWN (R14). -/
def TxEntry.countsOn (l : Loop) (e : TxEntry) : Ring → Bool
  | .ab => e.onAB || l.portB.state == .down
  | .ba => e.onBA || l.portA.state == .down

/-- Entries that count as inserted on both rings leave the queue (R14). -/
def leaveInserted (l : Loop) (q : List TxEntry) : List TxEntry :=
  q.filter fun e => !(e.countsOn l .ab && e.countsOn l .ba)

/-- The entries renumbered 0 upward in the order of their stamps (R29). -/
def renumberAges (q : List TxEntry) : List TxEntry :=
  q.map fun e => { e with age := (q.filter fun f => f.age < e.age).length }

/-- A new entry joins with the next age stamp, no sequence and both marks clear (R30); where the next age stamp would
pass 65,535 the entries are renumbered first (R29, log 16). -/
def Notices.append (ns : Notices) (l : Loop) (n : Notice) : Notices :=
  let q := if ns.nextAge < 65535 then ns.queue else renumberAges ns.queue
  let age := if ns.nextAge < 65535 then ns.nextAge else ns.queue.length
  { ns with
    queue := leaveInserted l (placeBefore TxEntry.inFront ⟨n, age, none, false, false⟩ q)
    nextAge := age + 1 }

/-- The queued entry takes the new notice in place of its own, keeps its age stamp, and is sent afresh on both rings
(R30). -/
def Notices.merge (ns : Notices) (l : Loop) (n : Notice) : Notices :=
  let q := update (fun e => n.mergesWith e.notice)
    (fun e => { e with notice := n, seq := none, onAB := false, onBA := false }) ns.queue
  { ns with queue := leaveInserted l (inOrder TxEntry.inFront q) }

/-- The lowest notice level among the queued entries (R31). -/
def lowestLevel (q : List TxEntry) : Nat := q.foldr (fun e m => min e.notice.level m) 7

/-- The latest age stamp among the entries of a level (R31). -/
def latestAge (level : Nat) (q : List TxEntry) : Nat :=
  q.foldr (fun e m => if e.notice.level = level then max e.age m else m) 0

/-- The queue without the youngest entry of its lowest level (R31). -/
def displaceYoungest (q : List TxEntry) : List TxEntry :=
  let low := lowestLevel q
  let age := latestAge low q
  q.filter fun e => !(e.notice.level == low && e.age == age)

/-- A notice offered to the transmit queue (R30, R31): merged, appended, appended after a displacement, or refused
(none). -/
def Notices.offer (ns : Notices) (l : Loop) (n : Notice) : Option Notices :=
  if ns.queue.any (fun e => n.mergesWith e.notice) then some (ns.merge l n)
  else if ns.queue.length < 16 then some (ns.append l n)
  else if lowestLevel ns.queue < n.level then
    some (Notices.append { ns with queue := displaceYoungest ns.queue } l n)
  else none

/-- The queue takes the notice. -/
def State.takesNotice (s : State) (n : Notice) : Bool := (s.notices.offer s.loop n).isSome

/-- A notice made within the station is offered; a refused one is dropped without a report (R31). -/
def State.send (s : State) (n : Notice) : State :=
  { s with notices := (s.notices.offer s.loop n).getD s.notices }

/-- A notice is offered within an event. -/
def Ev.send (e : Ev) (n : Notice) : Ev := e.on fun s => s.send n

/-! ### Sequences (R27, R28) -/

/-- The first entry, in the order of the queue, that does not count as inserted on a ring (R11). -/
def Notices.nextFor (ns : Notices) (l : Loop) (r : Ring) : Option TxEntry :=
  ns.queue.find? fun e => !e.countsOn l r

/-- At its first insertion an entry takes the own sequence counter's value, and the counter advances (R27). -/
def Notices.assign (ns : Notices) (e : TxEntry) : Notices × Byte :=
  match e.seq with
  | some q => (ns, q)
  | none =>
    ({ ns with
        queue := update (fun f => f.age == e.age) (fun f => { f with seq := some ns.ownSeq }) ns.queue
        ownSeq := ns.ownSeq + 1 }, ns.ownSeq)

/-- The entry marked inserted on a ring. -/
def TxEntry.mark (e : TxEntry) : Ring → TxEntry
  | .ab => { e with onAB := true }
  | .ba => { e with onBA := true }

/-- The entry that holds a sequence is marked inserted on a ring; where none holds it, none is marked (R13). -/
def Notices.mark (ns : Notices) (l : Loop) (r : Ring) (seq : Byte) : Notices :=
  { ns with
    queue := leaveInserted l (update (fun e => e.seq == some seq) (fun e => e.mark r) ns.queue) }

/-! ### The awaiting-return list (R32 to R35) -/

/-- The sent mark of a ring, set. -/
def Awaiting.setSent (a : Awaiting) : Ring → Awaiting
  | .ab => { a with sentAB := true }
  | .ba => { a with sentBA := true }

/-- The returned mark of a ring, set. -/
def Awaiting.setReturned (a : Awaiting) : Ring → Awaiting
  | .ab => { a with returnedAB := true }
  | .ba => { a with returnedBA := true }

/-- The earliest send time of the list. -/
def earliestSend (l : List Awaiting) : Nat :=
  match l with
  | [] => 0
  | a :: rest => rest.foldl (fun m b => min m b.sendTime) a.sendTime

/-- The list without the first entry of a send time. -/
def dropFirstSent (t : Nat) : List Awaiting → List Awaiting
  | [] => []
  | a :: rest => if a.sendTime = t then rest else a :: dropFirstSent t rest

/-- A completion makes an entry or updates the one with its sequence; where the list already holds 16, the entry with
the earliest send time is first removed without judgement (R32). -/
def recordCompletion (now : Nat) (r : Ring) (seq : Byte) (l : List Awaiting) : List Awaiting :=
  if l.any (fun a => a.seq == seq) then
    update (fun a => a.seq == seq) (fun a => { a.setSent r with sendTime := now }) l
  else
    let l := if l.length < 16 then l else dropFirstSent (earliestSend l) l
    l ++ [Awaiting.setSent ⟨seq, now, false, false, false, false⟩ r]

/-- A station fault flag changes: its STATION report carries all four flags as they stand after the change (R94). -/
def Ev.setFlags (e : Ev) (f : FaultFlags → FaultFlags) : Ev :=
  let new := f e.s.house.flags
  if new = e.s.house.flags then e
  else (e.on fun s => { s with house := { s.house with flags := new } }).report (.stationFlags new)

/-- Loop integrity turns to a value: at a change it is reported, and LOOP_OPEN follows it (R35). -/
def Ev.setIntegrity (e : Ev) (i : Integrity) : Ev :=
  if e.s.notices.integrity = i then e
  else
    ((e.on fun s => { s with notices := { s.notices with integrity := i } }).report (.loopIntegrity i)).setFlags
      fun f => { f with loopOpen := i == .broken }

/-- A return sets the returned mark of its ring; an entry with both returned marks is removed as returned whole, and
integrity turns CLOSED (R33, R35). -/
def Ev.takeReturn (e : Ev) (r : Ring) (seq : Byte) : Ev :=
  match e.s.notices.awaiting.find? (fun a => a.seq == seq) with
  | none => e
  | some a =>
    let a' := a.setReturned r
    if a'.returnedAB && a'.returnedBA then
      (e.on fun s => { s with notices := { s.notices with
        awaiting := s.notices.awaiting.filter fun b => b.seq != seq } }).setIntegrity .whole
    else
      e.on fun s => { s with notices := { s.notices with
        awaiting := update (fun b => b.seq == seq) (fun _ => a') s.notices.awaiting } }

/-- A ring counts as missed: sent, not returned, and its outgoing port UP at the expiry (R34). -/
def Awaiting.missed (l : Loop) (a : Awaiting) : Ring → Bool
  | .ab => a.sentAB && !a.returnedAB && l.portB.state == .up
  | .ba => a.sentBA && !a.returnedBA && l.portA.state == .up

/-- At its return limit an entry is removed and judged ring by ring (R34, R35). -/
def Ev.expireReturn (e : Ev) (seq : Byte) : Ev :=
  match e.s.notices.awaiting.find? (fun a => a.seq == seq) with
  | none => e
  | some a =>
    let e' := (e.on (State.elapseTo (a.sendTime + returnMicros))).on fun s =>
      { s with notices := { s.notices with awaiting := s.notices.awaiting.filter fun b => b.seq != seq } }
    if a.missed e.s.loop .ab || a.missed e.s.loop .ba then e'.setIntegrity .broken else e'

end Sys2Proof.Machine
end

