-- ==== Sys2Proof/Machine/House.lean ====
section
/-! DEFINITION. The tables of the house condition unit: the zone view (R87 to R92), the first-alarm order (R96) and
the curtain summary table (R97, R98). -/
namespace Sys2Proof.Machine

/-- A zone is appended to the first-alarm order where it is not in it; a FIRST_ZONE report is made when it becomes the
head (R96). -/
def Ev.appendFirst (e : Ev) (z : Nat) : Ev :=
  if e.s.house.firstAlarm.contains z then e
  else
    (e.on fun s => { s with house := { s.house with firstAlarm := s.house.firstAlarm ++ [z] } }).reportIf
      e.s.house.firstAlarm.isEmpty (.firstZone (some z))

/-- The first-alarm order is emptied, with a FIRST_ZONE report naming none where it had a head (R96). -/
def Ev.emptyFirst (e : Ev) : Ev :=
  (e.on fun s => { s with house := { s.house with firstAlarm := [] } }).reportIf
    (!e.s.house.firstAlarm.isEmpty) (.firstZone none)

/-- A change of a view entry that makes a ZONE report: of its state, isolated flag or owner-lost flag (R87). -/
def ViewEntry.reportable (v w : ViewEntry) : Bool :=
  v.state != w.state || v.isolated != w.isolated || v.ownerLost != w.ownerLost

/-- A view entry changes: the ZONE report where it is reportable, and the first-alarm order where the entry takes
CONFIRMED from another state (R87, R96). -/
def Ev.setView (e : Ev) (z : Nat) (f : ViewEntry → ViewEntry) (cause : Option Cause)
    (command : Option (HouseCommand × Nat × Byte)) : Ev :=
  match e.s.view? z with
  | none => e
  | some v =>
    let w := f v
    let e := (e.on fun s => { s with house := { s.house with
      view := update (fun v => v.zone == z) f s.house.view } }).reportIf (v.reportable w) (.zone w cause command)
    if w.state == .confirmed && v.state != .confirmed then e.appendFirst z else e

/-- The owner's own telling: the entry takes zone, state, isolated attribute and epoch at once (R88). -/
def Ev.tellView (e : Ev) (d : DigestItem) : Ev :=
  e.setView d.zone (fun v => { v with state := d.state, isolated := d.isolated, epoch := some d.epoch }) none none

/-- The tests of R89 on an item of a peer's ZONE_STATE or digest. -/
def ViewEntry.adopts (v : ViewEntry) (origin : Nat) (d : DigestItem) : Bool :=
  v.owner == origin && origin != 0 &&
    (match v.epoch with
     | none => true
     | some known => newer d.epoch known || (v.ownerLost && d.epoch == known))

/-- An item of a peer is adopted or discarded (R89). An entry this station owns is written by its zone supervisor
alone (R88). -/
def Ev.adoptItem (e : Ev) (origin : Nat) (d : DigestItem) (cause : Option Cause) : Ev :=
  match e.s.view? d.zone with
  | none => e
  | some v =>
    if v.adopts origin d && origin != e.s.start.station then
      e.setView d.zone (fun v => { v with
        state := d.state, isolated := d.isolated, epoch := some d.epoch, ownerLost := false }) cause none
    else e

/-- An owner lost: a zone not yet confirmed takes FAULT, and the owner-lost flag is set (R90). -/
def ViewEntry.lose (v : ViewEntry) : ViewEntry :=
  { v with
    state := match v.state with
      | .confirmed => .confirmed
      | .silenced => .silenced
      | .quiet => .fault
      | .fault => .fault
      | .preAlarm => .fault
      | .alert => .fault
    ownerLost := true }

/-- The zones whose view entry names a station as owner, in rising order. -/
def State.zonesOf (s : State) (owner : Nat) : List Nat :=
  (s.house.view.filter fun v => v.owner == owner).map ViewEntry.zone

/-- The signal that a peer became ABSENT, at the view (R90). -/
def Ev.loseOwner (e : Ev) (station : Nat) : Ev :=
  e.each (e.s.zonesOf station) fun e z => e.setView z ViewEntry.lose none none

/-- The signal that a peer restarted: the epochs of its zones are forgotten (R91). -/
def Ev.forgetEpochs (e : Ev) (station : Nat) : Ev :=
  e.on fun s => { s with house := { s.house with
    view := update (fun v => v.owner == station) (fun v => { v with epoch := none }) s.house.view } }

/-- Zone 0 under the house commands (Table 5-2). -/
def houseZoneState (c : HouseCommand) (s : ZoneState) : ZoneState :=
  match c, s with
  | .evacuate, .quiet => .confirmed
  | .evacuate, .silenced => .confirmed
  | .silence, .confirmed => .silenced
  | .houseReset, .confirmed => .quiet
  | .houseReset, .silenced => .quiet
  | _, s => s

/-- A house command acts on zone 0; the ZONE report carries the command, its origin and its command sequence
(R92). -/
def Ev.houseZone (e : Ev) (c : HouseCommand) (origin : Nat) (seq : Byte) : Ev :=
  e.setView 0 (fun v => { v with state := houseZoneState c v.state }) none (some (c, origin, seq))

/-! ### The curtain summary table -/

/-- The fields a summary gives an entry (R97). -/
def CurtainEntry.take (c : CurtainEntry) (station : Nat) (m : CurtainSummary) (present : Bool) : CurtainEntry :=
  { c with
    station := station
    state := m.state
    position := m.position
    proven := m.proven
    error := m.error
    present := present }

/-- A peer's roster state is PRESENT or SELF (R98). -/
def State.isPresent (s : State) (station : Nat) : Bool :=
  match s.peer? station with
  | none => false
  | some p => p.state != .absent

/-- A CURTAIN notice or curtain summary of a peer writes the entry of the curtain it names, but for this station's own
(R97). A change makes a CURTAIN report. -/
def Ev.takeCurtain (e : Ev) (origin : Nat) (m : CurtainSummary) (stage : Option Nat) : Ev :=
  if e.s.hasCurtain && m.curtain == e.s.gov.curtain then e
  else
    match e.s.curtain? m.curtain with
    | none => e
    | some c =>
      let c' := c.take origin m (e.s.isPresent origin)
      if c' = c then e
      else (e.on fun s => { s with house := { s.house with
        curtains := update (fun x => x.curtain == m.curtain) (fun _ => c') s.house.curtains } }).report
          (.curtain c' stage)

/-- The present flag of a station's entries follows its roster state; a change makes a CURTAIN report (R98). -/
def Ev.setPresent (e : Ev) (station : Nat) (present : Bool) : Ev :=
  e.each ((e.s.house.curtains.filter fun c => c.station == station && c.present != present).map
      fun c => { c with present := present })
    fun e c => (e.on fun s => { s with house := { s.house with
      curtains := update (fun x => x.curtain == c.curtain) (fun _ => c) s.house.curtains } }).report (.curtain c none)

end Sys2Proof.Machine
end

