-- ==== Sys2Proof/Machine/Calls.lean ====
section
/-! DEFINITION. The call dispatcher (chapter 9): rank and eligibility, binding and pre-emption (R174, R175),
application of calls (R167 to R169), cancels and acknowledgements (R173), chimes and intervals (R176, R177), the
house level (R178) and the evacuation call (R180). -/
namespace Sys2Proof.Machine

/-! ### Patterns, rank, eligibility -/

/-- Duration of a chime pattern in microseconds (Table 9-1). -/
def patternMicros : Nat → Nat
  | 0 => 1000000
  | 1 => 1500000
  | 2 => 2000000
  | 3 => 1500000
  | 4 => 1500000
  | 5 => 2500000
  | 6 => 2500000
  | 7 => 3000000
  | 8 => 2000000
  | 9 => 3000000
  | 10 => 4000000
  | 11 => 5000000
  | 12 => 2000000
  | 13 => 3500000
  | 14 => 6000000
  | _ => 4000000

/-- A record ranks above another by priority, then group, then earlier arrival stamp (R166). -/
def CallRec.outranks (a b : CallRec) : Bool :=
  b.priority < a.priority
  || (a.priority == b.priority && (b.group < a.group || (a.group == b.group && a.stamp < b.stamp)))

/-- A record is eligible while its priority exceeds the house level; the evacuation record while it exists (R174). -/
def CallRec.eligible (level : Nat) (r : CallRec) : Bool := r.number == 0 || level < r.priority

/-- An item waits while it is unbound and its remaining count is above 0 (R166). -/
def CallItem.waiting (i : CallItem) : Bool := i.channel.isNone && 0 < i.remaining

/-- The item of an area of a record. -/
def CallRec.item? (r : CallRec) (area : Nat) : Option CallItem := r.items.find? fun i => i.area == area

/-- The record wants a channel of an area. -/
def CallRec.wants (r : CallRec) (area : Nat) : Bool := r.items.any fun i => i.area == area && i.waiting

/-- Every item is finished: its remaining count is 0 (R166, R177). -/
def CallRec.finished (r : CallRec) : Bool := r.items.all fun i => i.remaining == 0

/-- None of the record's items is bound (R168). -/
def CallRec.unbound (r : CallRec) : Bool := r.items.all fun i => i.channel.isNone

/-- A change of the item of an area. -/
def CallRec.setItem (r : CallRec) (area : Nat) (f : CallItem → CallItem) : CallRec :=
  { r with items := update (fun i => i.area == area) f r.items }

/-! ### Records and channels -/

/-- The record of a call number: the evacuation record for 0, otherwise the queue's. -/
def Calls.record? (c : Calls) (n : Nat) : Option CallRec :=
  if n = 0 then c.evacuation else c.queue.find? fun r => r.number == n

/-- A change of the record of a call number. -/
def Calls.setRecord (c : Calls) (n : Nat) (f : CallRec → CallRec) : Calls :=
  if n = 0 then { c with evacuation := c.evacuation.map f }
  else { c with queue := update (fun r => r.number == n) f c.queue }

/-- All records in rank order, the evacuation record among them (R166). -/
def Calls.ranked (c : Calls) : List CallRec :=
  match c.evacuation with
  | none => c.queue
  | some r => placeBefore CallRec.outranks r c.queue

/-- The dispatch channel of a number. -/
def Calls.channel? (c : Calls) (k : Nat) : Option DispatchChannel := c.channels.find? fun d => d.number == k

/-- A change of a dispatch channel. -/
def Calls.setChannel (c : Calls) (k : Nat) (f : DispatchChannel → DispatchChannel) : Calls :=
  { c with channels := update (fun d => d.number == k) f c.channels }

/-- A channel silenced and made IDLE (Table 9-2). -/
def DispatchChannel.free (d : DispatchChannel) : DispatchChannel :=
  { d with state := .idle, bound := none, count := 0 }

/-- A channel may take a call: call 0 needs its evacuation flag (R164). -/
def DispatchChannel.mayTake (d : DispatchChannel) (n : Nat) : Bool := n != 0 || d.evacuation

/-- The channel is in use and serves the area. -/
def DispatchChannel.serves (d : DispatchChannel) (area : Nat) : Bool := d.inUse && d.area == area

/-- The areas of a set that a channel in use serves, in rising order (R166). -/
def Calls.served (c : Calls) (areas : List Nat) : List Nat :=
  areas.filter fun a => c.channels.any fun d => d.serves a

/-- The areas of the channels bound to a call, in rising order. -/
def Calls.areasBoundTo (c : Calls) (n : Nat) : List Nat :=
  allAreas.filter fun a => c.channels.any fun d => d.bound == some n && d.area == a

/-- A chime of a call begins on a channel: SOUNDING, with the chime timer of the pattern's duration (R164, R165). -/
def DispatchChannel.sound (now pattern : Nat) (d : DispatchChannel) : DispatchChannel :=
  { d with state := .sounding pattern (now + patternMicros pattern) }

/-- A channel is bound to an item: it takes the item's remaining count and its first chime begins (R174). -/
def Calls.bind (c : Calls) (now : Nat) (r : CallRec) (area k : Nat) : Calls :=
  let count := ((r.item? area).map CallItem.remaining).getD 0
  (c.setChannel k fun d => { (d.sound now r.pattern) with bound := some r.number, count := count }).setRecord
    r.number fun q => q.setItem area fun i => { i with channel := some k }

/-- The item a channel serves takes the channel's count back and waits (R175). -/
def Calls.displace (c : Calls) (k : Nat) : Calls :=
  match c.channel? k with
  | none => c
  | some d =>
    match d.bound with
    | none => c
    | some n =>
      c.setRecord n fun q => q.setItem d.area fun i => { i with remaining := d.count, channel := none }

/-- Every channel bound to a call is silenced and made IDLE, its count written back, and the items wait (R178). -/
def Calls.unbind (c : Calls) (n : Nat) : Calls :=
  let c' := (c.channels.filter fun d => d.bound == some n).foldl (fun c d => c.displace d.number) c
  { c' with channels := update (fun d => d.bound == some n) DispatchChannel.free c'.channels }

/-- A record leaves, and every channel bound to it is silenced and made IDLE (R173). -/
def Calls.remove (c : Calls) (n : Nat) : Calls :=
  { c with
    queue := if n = 0 then c.queue else c.queue.filter fun r => r.number != n
    evacuation := if n = 0 then none else c.evacuation
    channels := update (fun d => d.bound == some n) DispatchChannel.free c.channels }

/-! ### The binding arbiter (R174, R175) -/

/-- The lowest-numbered IDLE channel in use that serves the area and may take the call. -/
def Calls.freeFor (c : Calls) (n area : Nat) : Option Nat :=
  (c.channels.find? fun d => d.serves area && d.state == .idle && d.mayTake n).map DispatchChannel.number

/-- The channel's state is INTERVAL. -/
def DispatchChannel.inInterval (d : DispatchChannel) : Bool :=
  match d.state with
  | .interval _ => true
  | .idle => false
  | .sounding _ _ => false

/-- The channel that serves the area, is in INTERVAL, may take the call, and is bound to a record ranked below the
item's; of several, the one bound to the lowest-ranked record. -/
def Calls.intervalFor (c : Calls) (r : CallRec) (area : Nat) : Option Nat :=
  let owned (q : CallRec) : Option Nat :=
    (c.channels.find? fun d => d.serves area && d.inInterval && d.mayTake r.number
      && d.bound == some q.number).map DispatchChannel.number
  (c.ranked.filter fun q => r.outranks q).foldl (fun best q => (owned q).or best) none

/-- The waiting items of an area, highest-ranked first, each placed on a free channel or on one in INTERVAL; the
first that finds no place leaves all items ranked below it waiting (R174). -/
def Calls.placeItems (now area : Nat) : List Nat → Calls → Calls
  | [], c => c
  | n :: rest, c =>
    match c.record? n with
    | none => c
    | some r =>
      match c.freeFor n area with
      | some k => placeItems now area rest (c.bind now r area k)
      | none =>
        match c.intervalFor r area with
        | some k => placeItems now area rest ((c.displace k).bind now r area k)
        | none => c

/-- The binding arbiter runs for an area (R174). -/
def Calls.arbitrate (level now : Nat) (c : Calls) (area : Nat) : Calls :=
  Calls.placeItems now area
    ((c.ranked.filter fun r => r.eligible level && r.wants area).map CallRec.number) c

/-- The binding arbiter runs for several areas in the order given. -/
def Calls.arbitrateAll (level now : Nat) (areas : List Nat) (c : Calls) : Calls :=
  areas.foldl (Calls.arbitrate level now) c

/-! ### Applying a call (R167 to R169) -/

/-- The records renumbered 0 upward in the order of their stamps, the evacuation record among them (R166). -/
def Calls.renumber (c : Calls) : Calls :=
  let all := c.evacuation.toList ++ c.queue
  let restamp (r : CallRec) : CallRec := { r with stamp := (all.filter fun q => q.stamp < r.stamp).length }
  { c with evacuation := c.evacuation.map restamp, queue := c.queue.map restamp, nextStamp := all.length }

/-- Room for one more arrival stamp: renumbered where the next would pass 65,535 (R166, log 16). -/
def Calls.withStamp (c : Calls) : Calls := if c.nextStamp < 65535 then c else c.renumber

/-- A record of a call's fields with waiting items of the areas served (R167). -/
def CallDef.record (d : CallDef) (origin stamp : Nat) (areas : List Nat) : CallRec :=
  { number := d.number, origin := origin, pattern := d.pattern, interval := d.interval, priority := d.priority,
    group := d.group, ackWanted := d.ackWanted, dropOnAlarm := d.dropOnAlarm, stamp := stamp,
    items := areas.map fun a => ⟨a, d.repeats, none⟩ }

/-- A new record is made with the next arrival stamp and the areas of the record are arbitrated (R167). -/
def Calls.make (level now : Nat) (origin : Nat) (d : CallDef) (areas : List Nat) (c : Calls) : Calls × List Report :=
  let c := c.withStamp
  let r := d.record origin c.nextStamp areas
  (Calls.arbitrateAll level now areas
    { c with queue := placeBefore CallRec.outranks r c.queue, nextStamp := c.nextStamp + 1 },
   [.call d.number (.queued false areas) origin])

/-- The lowest-ranked record none of whose items is bound (R168). -/
def Calls.lowestUnbound (c : Calls) : Option CallRec := (c.queue.filter CallRec.unbound).getLast?

/-- The record a call displaces from a full queue: the lowest-ranked unbound one, where the call, ranked with the next
arrival stamp, ranks above it (R168). -/
def Calls.displacedBy (c : Calls) (d : CallDef) : Option CallRec :=
  match c.lowestUnbound with
  | none => none
  | some r => if r.priority < d.priority || (r.priority == d.priority && r.group < d.group) then some r else none

/-- Dropped at arrival: DROP_ON_ALARM and a priority that does not exceed the house level (R167). -/
def CallDef.dropsAt (d : CallDef) (level : Nat) : Bool := d.dropOnAlarm && d.priority ≤ level

/-- Applying the call would fall to the refusal of R168. -/
def Calls.wouldRefuse (c : Calls) (level : Nat) (d : CallDef) : Bool :=
  !(c.served (areasOf d.areas)).isEmpty && !d.dropsAt level && (c.queue.find? fun r => r.number == d.number).isNone
  && 24 ≤ c.queue.length && (c.displacedBy d).isNone

/-- The area list rebuilt (R169): an area kept takes the new repeat count, an area gained waits with it. -/
def refreshItems (old : List CallItem) (repeats : Nat) (areas : List Nat) : List CallItem :=
  areas.map fun a =>
    match old.find? fun i => i.area == a with
    | some i => { i with remaining := repeats }
    | none => ⟨a, repeats, none⟩

/-- A record of the call's number is refreshed (R169). A channel of it that is in its interval keeps the moment its
interval ends, whatever interval the refresh gives (DESIGN CHOICE, log 51). -/
def Calls.refresh (level now : Nat) (origin : Nat) (d : CallDef) (areas : List Nat) (r : CallRec) (c : Calls) :
    Calls :=
  let lost := (c.areasBoundTo d.number).filter fun a => !areas.contains a
  let fresh : CallRec :=
    { (d.record origin r.stamp areas) with items := refreshItems r.items d.repeats areas }
  let channels := (update (fun k => k.bound == some d.number && areas.contains k.area)
      (fun k => { k with count := d.repeats }) c.channels)
  let c := { c with
    queue := placeBefore CallRec.outranks fresh (c.queue.filter fun q => q.number != d.number)
    channels := update (fun k => k.bound == some d.number && !areas.contains k.area) DispatchChannel.free channels }
  let c := if fresh.eligible level then c else c.unbind d.number
  Calls.arbitrateAll level now (allAreas.filter fun a => areas.contains a || lost.contains a) c

/-- A call is applied to the queue (R167): no area served, dropped at arrival, refreshed, made, or the full queue of
R168. DESIGN CHOICE, unsafe (log 55): the report of a call dropped at arrival names the origin of the call that arrived, where a
record of another origin was held and is removed with it. -/
def Calls.apply (level now : Nat) (origin : Nat) (d : CallDef) (c : Calls) : Calls × List Report :=
  let areas := c.served (areasOf d.areas)
  if areas.isEmpty then (c, [])
  else if d.dropsAt level then
    (Calls.arbitrateAll level now (c.areasBoundTo d.number) (c.remove d.number),
     [.call d.number (.dropped .alarm) origin])
  else
    match c.queue.find? fun r => r.number == d.number with
    | some r => (c.refresh level now origin d areas r, [.call d.number (.queued true areas) origin])
    | none =>
      if c.queue.length < 24 then c.make level now origin d areas
      else
        match c.displacedBy d with
        | some q =>
          let (c', rs) := (c.remove q.number).make level now origin d areas
          (c', .call q.number (.dropped .displaced) q.origin :: rs)
        | none => (c, [.call d.number (.dropped .queueFull) origin])

/-! ### Cancels and acknowledgements (R173) -/

/-- The record of a call leaves with an outcome, and the areas of the freed channels are arbitrated; where none is
held nothing changes (R173). -/
def Calls.finish (level now n : Nat) (outcome : CallOutcome) (c : Calls) : Calls × List Report :=
  match c.queue.find? fun r => r.number == n with
  | none => (c, [])
  | some r =>
    (Calls.arbitrateAll level now (c.areasBoundTo n) (c.remove n), [.call n outcome r.origin])

/-! ### Chimes and intervals (R176, R177) -/

/-- The highest-ranked eligible record above the channel's bound record with a waiting item of the channel's area that
the channel may take (R176). -/
def Calls.preemptor (level : Nat) (c : Calls) (d : DispatchChannel) (bound : CallRec) : Option CallRec :=
  c.ranked.find? fun r => r.eligible level && r.outranks bound && r.wants d.area && d.mayTake r.number

/-- The count after a chime: continuous 255 stays (Table 9-3). -/
def countAfter (n : Nat) : Nat := if n = 255 then 255 else n - 1

/-- A released channel: the item is finished, the channel's area is arbitrated, and a record whose items are all
finished is removed with its report (R176, R177). -/
def Calls.release (level now : Nat) (c : Calls) (d : DispatchChannel) (r : CallRec) : Calls × List Report :=
  let c := (c.setChannel d.number DispatchChannel.free).setRecord r.number fun q =>
    q.setItem d.area fun i => { i with remaining := 0, channel := none }
  let c := Calls.arbitrate level now c d.area
  match c.record? r.number with
  | none => (c, [])
  | some q =>
    if q.finished && r.number != 0 then
      (c.remove r.number, [.call r.number (if q.ackWanted then .unanswered else .done) q.origin])
    else (c, [])

/-- The end of a chime on a channel bound to a record (R176). -/
def Calls.endChime (level now : Nat) (c : Calls) (d : DispatchChannel) (r : CallRec) : Calls × List Report :=
  let count := countAfter d.count
  if count = 0 then c.release level now d r
  else
    let c := c.setChannel d.number fun d => { d with count := count }
    match c.preemptor level d r with
    | some q => ((c.displace d.number).bind now q d.area d.number, [])
    | none =>
      if r.number = 0 then (c.setChannel d.number (DispatchChannel.sound now r.pattern), [])
      else (c.setChannel d.number fun d => { d with state := .interval (now + r.interval * 1000000) }, [])

/-! ### The house level (R178) and the evacuation call (R180) -/

/-- The areas served by a channel in use whose evacuation flag is set, each once, in rising order (R180). -/
def Calls.evacuationAreas (c : Calls) : List Nat :=
  (inOrder (fun a b => decide (a ≤ b))
    ((c.channels.filter fun d => d.inUse && d.evacuation).map DispatchChannel.area)).dedup

/-- The evacuation record with its fixed fields (R180). -/
def evacuationRecord (station stamp : Nat) (areas : List Nat) : CallRec :=
  { number := 0, origin := station, pattern := 15, interval := 0, priority := 5, group := 3, ackWanted := false,
    dropOnAlarm := false, stamp := stamp, items := areas.map fun a => ⟨a, 255, none⟩ }

/-- The evacuation record is made (R180). -/
def Calls.makeEvacuation (station : Nat) (c : Calls) : Calls × List Report :=
  let c := c.withStamp
  let areas := c.evacuationAreas
  ({ c with evacuation := some (evacuationRecord station c.nextStamp areas), nextStamp := c.nextStamp + 1 },
   [.call 0 (.queued false areas) station])

/-- The areas of the station's channels, each once, in rising order (R178). -/
def Calls.channelAreas (c : Calls) : List Nat :=
  (inOrder (fun a b => decide (a ≤ b)) ((c.channels.filter DispatchChannel.inUse).map DispatchChannel.area)).dedup

/-- The dispatcher takes a new house level, in the five parts of R178. -/
def Calls.takeLevel (station now old new : Nat) (c : Calls) : Calls × List Report :=
  let withdrawn := old == 5 && new != 5 && c.evacuation.isSome
  let r1 : List Report := if withdrawn then [.call 0 .withdrawn station] else []
  let c1 := if withdrawn then c.remove 0 else c
  let silenced := (c1.queue.filter fun r => !r.eligible new && !r.unbound).map CallRec.number
  let c2 := silenced.foldl Calls.unbind c1
  let dropped := c2.queue.filter fun r => !r.eligible new && r.dropOnAlarm
  let r3 : List Report := dropped.map fun r => .call r.number (.dropped .alarm) r.origin
  let c3 := (dropped.map CallRec.number).foldl Calls.remove c2
  let made := new == 5 && c3.evacuation.isNone
  let (c4, r4) := if made then c3.makeEvacuation station else (c3, [])
  let c5 :=
    if new < old || withdrawn || !silenced.isEmpty || made then Calls.arbitrateAll new now c4.channelAreas c4 else c4
  (c5, r1 ++ r3 ++ r4)

/-! ### Within an event -/

/-- The dispatcher does something at the station's present level and time, and its CALL reports are made. -/
def Ev.calls (e : Ev) (f : Nat → Nat → Calls → Calls × List Report) : Ev :=
  let (c, rs) := f e.s.house.level e.s.now e.s.calls
  (e.on fun s => { s with calls := c }).reports rs

/-- A call is applied at this station (R167). -/
def Ev.applyCall (e : Ev) (origin : Nat) (d : CallDef) : Ev :=
  e.calls fun level now c => c.apply level now origin d

/-- The definition of a call number in the station's library (R163). -/
def State.definition? (s : State) (n : Nat) : Option CallDef := s.calls.library.find? fun d => d.number == n

/-- The phase call: the definition the profile names for the phase is applied; 0, or a number without definition,
does nothing (R179). -/
def Ev.phaseCall (e : Ev) (p : Phase) : Ev :=
  match e.s.definition? ((e.s.start.profile.phaseCalls[p.code.toNat]?).getD 0) with
  | none => e
  | some d => e.applyCall e.s.start.station d

/-- The curtain warning call: applied here, and offered to the peers in a CALL notice (R129, R179). -/
def Ev.warningCall (e : Ev) : Ev :=
  match e.s.definition? e.s.start.profile.warningCall with
  | none => e
  | some d => (e.applyCall e.s.start.station d).send (.call d)

end Sys2Proof.Machine
end

