-- ==== Sys2Proof/Machine/Lights.lean ====
section
/-! DEFINITION. The fade engine (chapter 8): fades (R147, R148), cues and fade actions (R149 to R151), output (R153 to
R155), the safety override (R156 to R158) and its release (R159), with the LIGHTS reports (R160). -/
namespace Sys2Proof.Machine

/-! ### Fades -/

/-- Fade ticks of a time in tenths of a second: one tick is 20 ms (section 8.2). -/
def ticksOf (tenths : Nat) : Nat := tenths * 5

/-- A time clamped into 0 to 6,000 tenths (R149, R151). -/
def clampTime (t : Nat) : Nat := min t 6000

/-- A target clamped into the channel's floor to 1000 (R149). -/
def LightChannel.clampTarget (c : LightChannel) (target : Nat) : Nat := max c.floor (min target 1000)

/-- A fade begins from the present level (R147). -/
def LightChannel.beginFade (c : LightChannel) (target total : Nat) (held : Bool) : LightChannel :=
  { c with fade := some ⟨c.level, target, total, 0, held⟩ }

/-- start + (target - start) x k / N, rounded toward zero (R148). -/
def fadeLevel (start target k n : Nat) : Nat :=
  (start + Int.tdiv (((target : Int) - start) * k) n).toNat

/-- One fade tick of a channel (R148): a held fade stands, a complete one is removed. -/
def LightChannel.tick (c : LightChannel) : LightChannel :=
  match c.fade with
  | none => c
  | some f =>
    if !c.inUse || f.held then c
    else if f.total ≤ f.done + 1 then { c with level := f.target, fade := none }
    else
      { c with
        level := fadeLevel f.start f.target (f.done + 1) f.total
        fade := some { f with done := f.done + 1 } }

/-- The compare register's value of a level by the channel's curve (R154). -/
def compareValue (curve : Curve) (level period : Nat) : Nat :=
  match curve with
  | .linear => level * period / 1000
  | .square => level * level * period / 1000000

/-- The compare register written from the level (R154). -/
def LightChannel.writeCompare (period : Nat) (c : LightChannel) : LightChannel :=
  { c with compareReg := compareValue c.curve c.level period }

/-- The period counter wraps to 0 and the compare buffer is loaded from the register (R155); the next wrap is one period
later (R153). -/
def LightChannel.wrap (period : Nat) (c : LightChannel) : LightChannel :=
  { c with wrapDue := c.wrapDue + period, compareBuf := c.compareReg }

/-- The moment in the present period at which the counter reaches the compare buffer; a buffer of 0 or of the whole period
is not reached (R153). -/
def LightChannel.matchDue (period : Nat) (c : LightChannel) : Option Nat :=
  if 0 < c.compareBuf ∧ c.compareBuf < period then some (c.wrapDue + c.compareBuf - period) else none

/-! ### Cues and fade actions -/

/-- A channel is addressed when it is in use and its group is a member of the set (section 8.3). -/
def LightChannel.addressed (groups : Half) (c : LightChannel) : Bool := c.inUse && hasBit groups c.group

/-- A CUE on an addressed channel (R149). -/
def LightChannel.cue (target time : Nat) (c : LightChannel) : LightChannel :=
  match c.override with
  | .none => c.beginFade (c.clampTarget target) (ticksOf (clampTime time)) false
  | .active => { c with pending := some ⟨c.clampTarget target, clampTime time⟩ }
  | .retained => { c with pending := some ⟨c.clampTarget target, clampTime time⟩ }

/-- HOLD and RESUME set and clear the held flag of a fade, on a channel with override NONE (Table 8-1). -/
def LightChannel.setHeld (held : Bool) (c : LightChannel) : LightChannel :=
  match c.override with
  | .none => { c with fade := c.fade.map fun f => { f with held := held } }
  | .active => c
  | .retained => c

/-- RETIME on an addressed channel (R151): a new fade from the present level to the same target, the held flag carried
over. -/
def LightChannel.retime (time : Nat) (c : LightChannel) : LightChannel :=
  match c.override with
  | .none =>
    match c.fade with
    | none => c
    | some f => c.beginFade f.target (ticksOf (clampTime time)) f.held
  | .active => c
  | .retained => c

/-- A light action on an addressed channel (R149 to R151). -/
def LightChannel.act (a : LightAction) (c : LightChannel) : LightChannel :=
  match a with
  | .cue target time => c.cue target.toNat time.toNat
  | .hold => c.setHeld true
  | .resume => c.setHeld false
  | .retime time => c.retime time.toNat

/-- A light action is applied to this station's addressed channels (R152). -/
def State.applyLight (s : State) (groups : Half) (a : LightAction) : State :=
  { s with lights := { s.lights with
    channels := update (fun c => c.addressed groups) (fun c => c.act a) s.lights.channels } }

/-! ### The safety override -/

/-- The override of a channel reacts to a house level (R157, R158). -/
def LightChannel.takeLevel (overrideTime level : Nat) (c : LightChannel) : LightChannel :=
  if !(c.inUse && c.safety) then c
  else if 4 ≤ level then
    match c.override with
    | .active => c
    | .none => { (c.beginFade 1000 (ticksOf overrideTime) false) with override := .active }
    | .retained => { (c.beginFade 1000 (ticksOf overrideTime) false) with override := .active }
  else
    match c.override with
    | .active => { c with override := .retained }
    | .none => c
    | .retained => c

/-- A RETAINED channel enters NONE and plays its pending cue (R159). -/
def LightChannel.release (c : LightChannel) : LightChannel :=
  match c.override with
  | .retained =>
    match c.pending with
    | some p => { (c.beginFade p.target (ticksOf p.time) false) with override := .none, pending := none }
    | none => { c with override := .none }
  | .none => c
  | .active => c

/-- The LIGHTS report of a channel (R160). -/
def LightChannel.report (c : LightChannel) : Report := .lights c.number c.override c.level c.pending

/-- The LIGHTS reports of the channels whose override a change gives another value, in rising order (R160). -/
def overrideReports (f : LightChannel → LightChannel) (l : List LightChannel) : List Report :=
  (l.filter fun c => (f c).override != c.override).map fun c => (f c).report

/-- A change of every channel within an event, with its LIGHTS reports. -/
def Ev.lights (e : Ev) (f : LightChannel → LightChannel) : Ev :=
  (e.on fun s => { s with lights := { s.lights with channels := s.lights.channels.map f } }).reports
    (overrideReports f e.s.lights.channels)

/-! ### The commands of the fade engine's timers -/

/-- FADE_TICK (R148, R154): at a tick every unheld fade is advanced, and then every compare register is written.
Ticks are taken in start mode NORMAL alone (R162). -/
def execFadeTick (s : State) : Host.Outcome State Fault Refusal :=
  match s.lights.tickDue with
  | none => next s
  | some due =>
    let s := s.elapseTo due
    next { s with lights :=
      { channels := s.lights.channels.map fun c => (c.tick).writeCompare s.start.profile.period
        tickDue := some (due + fadeTickMicros) } }

/-- A change of one light channel. -/
def State.setLight (s : State) (n : Nat) (f : LightChannel → LightChannel) : State :=
  { s with lights := { s.lights with channels := update (fun c => c.number == n) f s.lights.channels } }

/-- PERIOD_WRAP (R153, R155) of a channel, at the moment its counter has counted P - 1. -/
def execPeriodWrap (channel : Nat) (s : State) : Host.Outcome State Fault Refusal :=
  match s.light? channel with
  | none => next s
  | some c =>
    let s := s.elapseTo c.wrapDue
    next (s.setLight channel (LightChannel.wrap s.start.profile.period))

/-- PERIOD_COMPARE_MATCH (R153) of a channel: the clock comes to the moment its counter reaches the compare buffer, and the
output is off; a match that has passed in this period changes nothing (log 3). -/
def execPeriodCompareMatch (channel : Nat) (s : State) : Host.Outcome State Fault Refusal :=
  match (s.light? channel).bind (LightChannel.matchDue s.start.profile.period) with
  | none => next s
  | some due => next (s.elapseTo due)

end Sys2Proof.Machine
end

