-- ==== Sys2Proof/Machine/Travel.lean ====
section
/-! DEFINITION. The travel supervisor's arithmetic (chapter 7): count delta (R134), position (R135), velocity (R136),
bands and damper staging (R138 to R140), closure estimate and lateness (R141, R142), raise checks (R143). What a
sample finds is handed to the governor in Machine/Curtain.lean. -/
namespace Sys2Proof.Machine

/-- The count of an encoder reading by the encoder sense (Table 7-2). -/
def TravelParams.count (p : TravelParams) (reading : Half) : Half :=
  if p.inverted then 65535 - reading else reading

/-- The position in whole millimetres: the accumulator divided by 1000, rounded down (R132). -/
def Travel.position (t : Travel) : Nat := t.accumulator / 1000

/-- The signed count delta of two counts: modulo 65,536, with 65,536 taken off a result of 32,768 or more (R134). -/
def countDelta (previous : Option Half) (c : Half) : Int :=
  match previous with
  | none => 0
  | some p => (c - p).toInt

/-- Stage 1 (R134). -/
def Travel.takeCount (t : Travel) (c : Half) : Travel :=
  { t with previous := some c, displacement := t.displacement + countDelta t.previous c }

/-- A signed number clamped into 0 to a bound. -/
def clampInto (bound : Nat) (x : Int) : Nat := min bound x.toNat

/-- Stage 2 (R135): the delta's travel joins the accumulator, clamped, and then a limit that stands alone fixes it. -/
def Travel.takePosition (t : Travel) (p : TravelParams) (pair : LimitPair) (delta : Int) : Travel :=
  let sum := clampInto (p.length * 1000) (t.accumulator + delta * p.micrometresPerCount)
  match pair with
  | .downArrival => { t with accumulator := 0, known := true }
  | .upArrival => { t with accumulator := p.length * 1000, known := true }
  | .disagreement => { t with accumulator := sum }
  | .clear => { t with accumulator := sum }

/-- A limit sample runs stages 1 and 2 (R133). -/
def Travel.limitSample (t : Travel) (p : TravelParams) (pair : LimitPair) (reading : Half) : Travel :=
  (t.takeCount (p.count reading)).takePosition p pair (countDelta t.previous (p.count reading))

/-- Saturated at -9,999 and 9,999 mm/s (R136). -/
def saturateVelocity (v : Int) : Int := max (-9999) (min 9999 v)

/-- Stage 3 (R136): the period displacement times u over 50 ms, rounded toward zero and saturated. -/
def Travel.takeVelocity (t : Travel) (p : TravelParams) : Travel :=
  { t with
    velocity := saturateVelocity (Int.tdiv (t.displacement * p.micrometresPerCount) 50)
    displacement := 0 }

/-- The descent speed s (R136). -/
def Travel.descentSpeed (t : Travel) : Nat := (-t.velocity).toNat

/-- The rise speed r (R136). -/
def Travel.riseSpeed (t : Travel) : Nat := t.velocity.toNat

/-- The speed limit of the position: V_fast above the slow zone, V_slow in it (R138). -/
def Travel.speedLimit (t : Travel) (p : TravelParams) : Nat :=
  if p.slowZone < t.position then p.fastLimit else p.slowLimit

/-- Classes of a descent sample (R138). -/
inductive Band where
  | over
  | under
  | neither
deriving DecidableEq, Repr

/-- Stage 4 (R138). -/
def Travel.band (t : Travel) (p : TravelParams) (downClosed : Bool) : Band :=
  let lim := t.speedLimit p
  if lim + lim / 10 < t.descentSpeed then .over
  else if t.descentSpeed < lim / 4 && !downClosed then .under
  else .neither

/-- What a periodic sample hands to the governor, in the order of R144. -/
inductive Finding where
  | overspeed
  | stall
  | raiseStall
  | late
deriving DecidableEq, Repr

/-- Stage 5 for an over sample (R139). -/
def Travel.takeOver (t : Travel) : Travel × List Finding :=
  let run := t.overRun + 1
  let t := { t with underRun := 0 }
  if t.stage < 3 then
    if 2 ≤ run then ({ t with stage := t.stage + 1, overRun := 0 }, []) else ({ t with overRun := run }, [])
  else if 4 ≤ run then
    if t.overspeedFound then ({ t with overRun := 0 }, [])
    else ({ t with overRun := 0, overspeedFound := true }, [.overspeed])
  else ({ t with overRun := run }, [])

/-- Stage 5 for an under sample (R140). -/
def Travel.takeUnder (t : Travel) : Travel × List Finding :=
  let run := t.underRun + 1
  let t := { t with overRun := 0 }
  if 0 < t.stage then
    if 4 ≤ run then ({ t with stage := t.stage - 1, underRun := 0 }, []) else ({ t with underRun := run }, [])
  else if 20 ≤ run then ({ t with underRun := 20 }, [.stall])
  else ({ t with underRun := run }, [])

/-- Stages 4 and 5 (R138 to R140). -/
def Travel.takeBand (t : Travel) (p : TravelParams) (downClosed : Bool) : Travel × List Finding :=
  match t.band p downClosed with
  | .over => t.takeOver
  | .under => t.takeUnder
  | .neither => ({ t with overRun := 0, underRun := 0 }, [])

/-- The remaining time in milliseconds: the ceiling of p x 1000 / s, saturating at 600,000, and 600,000 where s is 0
(R141). -/
def remainingTime (position speed : Nat) : Nat :=
  if speed = 0 then 600000 else min 600000 ((position * 1000 + speed - 1) / speed)

/-- Stage 6 (R141, R142). -/
def Travel.takeClosure (t : Travel) (p : TravelParams) (downClosed : Bool) : Travel × List Finding :=
  let elapsed := min 600000 (t.elapsed + 50)
  let closure := elapsed + remainingTime t.position t.descentSpeed
  let run := if t.known then (if p.deadline < closure then min 10 (t.lateRun + 1) else 0) else 0
  let late := t.known && (run == 10 || (p.deadline < elapsed && !downClosed))
  let t := { t with elapsed := elapsed, closure := closure, lateRun := run }
  if late && !t.lateFound then ({ t with lateFound := true }, [.late]) else (t, [])

/-- Stage 7 (R143). -/
def Travel.takeRaise (t : Travel) (p : TravelParams) (upClosed : Bool) : Travel × List Finding :=
  if p.raiseLimit + p.raiseLimit / 10 < t.riseSpeed then
    ({ t with raiseOver := min 2 (t.raiseOver + 1), raiseUnder := 0 }, if 2 ≤ t.raiseOver + 1 then [.raiseStall] else [])
  else if t.riseSpeed < p.raiseLimit / 4 && !upClosed then
    ({ t with raiseUnder := min 20 (t.raiseUnder + 1), raiseOver := 0 },
      if 20 ≤ t.raiseUnder + 1 then [.raiseStall] else [])
  else ({ t with raiseOver := 0, raiseUnder := 0 }, [])

/-- A periodic sample (R133): stages 1 to 3 in every state, 4 to 6 in the descending states, 7 in RAISING; and what it
finds, STALL, OVERSPEED or RAISE_STALL before LATE (R144). -/
def Travel.periodicSample (t : Travel) (p : TravelParams) (g : Governor) (reading : Half) : Travel × List Finding :=
  let t := (t.limitSample p g.pair reading).takeVelocity p
  if g.state.isDescending then
    let (t1, f1) := t.takeBand p g.downClosed
    let (t2, f2) := t1.takeClosure p g.downClosed
    (t2, f1 ++ f2)
  else if g.state = .raising then t.takeRaise p g.upClosed
  else (t, [])

/-- The start of a descent (R137). -/
def Travel.startDescent (t : Travel) : Travel :=
  { t with
    stage := 1
    overRun := 0
    underRun := 0
    lateRun := 0
    elapsed := 0
    overspeedFound := false
    lateFound := false }

/-- Entry into any state other than LOWERING or DROPPING (R137). -/
def Travel.leaveDescent (t : Travel) : Travel := { t with stage := 0 }

/-- Entry into DROPPING from STUCK (R137). -/
def Travel.dropFromStuck (t : Travel) : Travel := { t with stage := 0, overRun := 0, underRun := 0 }

/-- Entry into RAISING: the raise runs become 0 (R143). -/
def Travel.startRaise (t : Travel) : Travel := { t with stage := 0, raiseOver := 0, raiseUnder := 0 }

end Sys2Proof.Machine
end

