-- ==== Sys2Proof/Machine/Curtain.lean ====
section
/-! DEFINITION. The curtain governor (chapter 6): entry into each state with its effects on the motion status record
and the travel supervisor, the commands by state (Table 6-3), limit arrivals (R120), disagreement (R121), errors
(R124), the house level (R123), and proving (R127). Every operation is part of an event; telling (R128) is done once at
the event's end (Machine/Event.lean). -/
namespace Sys2Proof.Machine

/-! ### Parts of an event that change the governor or the supervisor -/

/-- The governor changes. -/
def Ev.gov (e : Ev) (f : Governor → Governor) : Ev := e.on fun s => { s with gov := f s.gov }

/-- The travel supervisor changes. -/
def Ev.travel (e : Ev) (f : Travel → Travel) : Ev := e.on fun s => { s with travel := f s.travel }

/-- Entry into a state in which the curtain is held or at rest: the damper stage becomes 0 (R137). -/
def Ev.rest (e : Ev) (st : CurtainState) : Ev :=
  (e.gov fun g => { g with state := st }).travel Travel.leaveDescent

/-- Entry into RAISING: the supervisor's raise checks start afresh (R113, R143). -/
def Ev.beginRaise (e : Ev) : Ev :=
  (e.gov fun g => { g with state := .raising }).travel Travel.startRaise

/-- The last result is written (R108). -/
def Ev.result (e : Ev) (r : LastResult) : Ev := e.gov fun g => { g with lastResult := r }

/-- The tests of R127 at a down arrival: the descent started at 90% of travel or more, with no error latched. -/
def Governor.proves (g : Governor) (length : Nat) : Bool :=
  (match g.descentStart with
   | none => false
   | some start => length * 9 / 10 ≤ start) && g.error.isNone

/-- A down arrival ends a descent (R120): DOWN, COMPLETED, the proven flag judged (R127), the proof outcome taken
(R118). -/
def Governor.endDescent (length : Nat) (g : Governor) : Governor :=
  { g with
    state := .down
    lastResult := .completed
    proven := g.proven || g.proves length
    proofMark := if g.proofMark = .running then (if g.proves length then .passed else .failed) else g.proofMark }

/-- The down arrival that ends a descent. -/
def Ev.endDescent (e : Ev) : Ev :=
  (e.gov (Governor.endDescent e.s.start.profile.params.length)).travel Travel.leaveDescent

/-- DROPPING was entered in this event: the warning call is to be sent (R129). -/
def Ev.drop (e : Ev) : Ev := { e with dropped := true }

/-- A descent begins (R106, R115): the proof mark, the descent start position where the position is known, and the
supervisor's descent supervision afresh. One that begins while the pair reads down arrival ends at once (R115,
R117). R115 and R117 say so of LOWER and DROP; the model ends a drop forced by the house level there in the same way, in
DOWN with COMPLETED (DESIGN CHOICE, log 50). -/
def Ev.beginDescent (e : Ev) (st : CurtainState) (proof : ProofMark) : Ev :=
  let start := if e.s.travel.known then some e.s.travel.position else none
  let e := (e.gov fun g => { g with state := st, proofMark := proof, descentStart := start }).travel
    Travel.startDescent
  let e := if st = .dropping then e.drop else e
  if e.s.gov.pair = .downArrival then e.endDescent else e

/-- LOWERING converted to DROPPING: nothing is reset (R117, R137). -/
def Ev.convertDrop (e : Ev) : Ev := (e.gov fun g => { g with state := .dropping }).drop

/-! ### Commands by state (R110 to R118, R126) -/

/-- A raise begun or resumed: while the pair reads up arrival it is UP at once, COMPLETED (R113, R114). -/
def Ev.raiseOrUp (e : Ev) : Ev :=
  if e.s.gov.pair = .upArrival then (e.rest .up).result .completed else e.beginRaise

/-- RAISE by state (Table 6-3, R113). -/
def Ev.takeRaise (e : Ev) : Ev × Answer :=
  match e.s.gov.state with
  | .down => ((e.gov fun g => { g with raiseMicros := 0, proofMark := .none }).raiseOrUp, .accepted)
  | .lowerHeld => ((e.gov fun g => { g with proofMark := .none }).raiseOrUp, .accepted)
  | .raising => (e, .refused .curtainState)
  | .raiseHeld => (e, .refused .curtainState)
  | .up => (e, .refused .curtainState)
  | .lowering => (e, .refused .curtainState)
  | .dropping => (e, .refused .curtainState)
  | .stuck => (e, .refused .curtainState)

/-- RESUME by state (Table 6-3, R114). -/
def Ev.takeResume (e : Ev) : Ev × Answer :=
  match e.s.gov.state with
  | .raiseHeld => (e.raiseOrUp, .accepted)
  | .down => (e, .refused .curtainState)
  | .raising => (e, .refused .curtainState)
  | .up => (e, .refused .curtainState)
  | .lowering => (e, .refused .curtainState)
  | .lowerHeld => (e, .refused .curtainState)
  | .dropping => (e, .refused .curtainState)
  | .stuck => (e, .refused .curtainState)

/-- LOWER by state (Table 6-3, R115). -/
def Ev.takeLower (e : Ev) : Ev × Answer :=
  match e.s.gov.state with
  | .raising => ((e.result .stopped).beginDescent .lowering .none, .accepted)
  | .raiseHeld => (e.beginDescent .lowering .none, .accepted)
  | .up => (e.beginDescent .lowering .none, .accepted)
  | .lowerHeld => (e.beginDescent .lowering .none, .accepted)
  | .down => (e, .accepted)
  | .lowering => (e, .accepted)
  | .dropping => (e, .accepted)
  | .stuck => (e, .refused .curtainState)

/-- STOP by state (Table 6-3, R116). -/
def Ev.takeStop (e : Ev) : Ev × Answer :=
  match e.s.gov.state with
  | .raising => ((e.rest .raiseHeld).result .stopped, .accepted)
  | .lowering => ((e.rest .lowerHeld).result .stopped, .accepted)
  | .dropping => (e, .refused .dropUnstoppable)
  | .down => (e, .accepted)
  | .raiseHeld => (e, .accepted)
  | .up => (e, .accepted)
  | .lowerHeld => (e, .accepted)
  | .stuck => (e, .accepted)

/-- DROP by state (Table 6-3, R117). -/
def Ev.takeDrop (e : Ev) : Ev × Answer :=
  match e.s.gov.state with
  | .raising => ((e.result .stopped).beginDescent .dropping .none, .accepted)
  | .raiseHeld => (e.beginDescent .dropping .none, .accepted)
  | .up => (e.beginDescent .dropping .none, .accepted)
  | .lowerHeld => (e.beginDescent .dropping .none, .accepted)
  | .lowering => (e.convertDrop, .accepted)
  | .down => (e, .accepted)
  | .dropping => (e, .accepted)
  | .stuck => (e, .accepted)

/-- PROOF by state (Table 6-3, R118). -/
def Ev.takeProof (e : Ev) : Ev × Answer :=
  match e.s.gov.state with
  | .up => (e.beginDescent .dropping .running, .accepted)
  | .down => (e, .refused .curtainState)
  | .raising => (e, .refused .curtainState)
  | .raiseHeld => (e, .refused .curtainState)
  | .lowering => (e, .refused .curtainState)
  | .lowerHeld => (e, .refused .curtainState)
  | .dropping => (e, .refused .curtainState)
  | .stuck => (e, .refused .curtainState)

/-- The latched error is cleared, and with it CURTAIN_FAULT (R125, R126). -/
def Ev.clearError (e : Ev) : Ev :=
  (e.gov fun g => { g with error := none }).setFlags fun f => { f with curtainFault := false }

/-- CLEAR_STATUS by state (Table 6-3, R126). -/
def Ev.takeClear (e : Ev) : Ev × Answer :=
  match e.s.gov.state with
  | .down => (e.clearError, .accepted)
  | .up => (e.clearError, .accepted)
  | .raiseHeld => (e.clearError, .accepted)
  | .lowerHeld => (e.clearError, .accepted)
  | .raising => (e, .refused .curtainState)
  | .lowering => (e, .refused .curtainState)
  | .dropping => (e, .refused .curtainState)
  | .stuck => (e, .refused .curtainState)

/-- The fourth check of Table 6-2: LOWER and PROOF are refused while an error is latched. -/
def CurtainAction.needsNoError : CurtainAction → Bool
  | .lower => true
  | .proof => true
  | .stop => false
  | .drop => false
  | .clearStatus => false

/-- An action taken by the curtain's present state (Table 6-3). -/
def Ev.takeByState (e : Ev) (a : CurtainAction) : Ev × Answer :=
  match a with
  | .lower => e.takeLower
  | .stop => e.takeStop
  | .drop => e.takeDrop
  | .proof => e.takeProof
  | .clearStatus => e.takeClear

/-- The fourth and fifth checks of Table 6-2, and then Table 6-3: a delivered request (R112), and the end of a local
command. -/
def Ev.takeRequest (e : Ev) (a : CurtainAction) : Ev × Answer :=
  if a.needsNoError && e.s.gov.error.isSome then (e, .refused .statusLatched)
  else if a = .clearStatus && e.s.gov.pair = .disagreement then (e, .refused .statusLatched)
  else e.takeByState a

/-- A local command of the five actions that may also be requested: the engineer key is checked for CLEAR_STATUS
(Table 6-2). -/
def Ev.takeLocal (e : Ev) (a : CurtainAction) : Ev × Answer :=
  if a = .clearStatus && !e.s.engineerTurned then (e, .refused .keyRequired) else e.takeRequest a

/-- A local RAISE or RESUME with the checks of Table 6-2 in order. -/
def Ev.takeLocalRaise (e : Ev) (take : Ev → Ev × Answer) : Ev × Answer :=
  if !e.s.gov.raiseKey then (e, .refused .keyRequired)
  else if 3 ≤ e.s.house.level then (e, .refused .houseLevel)
  else if e.s.gov.error.isSome then (e, .refused .statusLatched)
  else take e

/-! ### Events during motion -/

/-- An error detected: the first one is latched and CURTAIN_FAULT set (R124, R125). -/
def Ev.latch (e : Ev) (err : CurtainError) : Ev :=
  match e.s.gov.error with
  | some _ => e
  | none => (e.gov fun g => { g with error := some err }).setFlags fun f => { f with curtainFault := true }

/-- Entry into STUCK (R118, R124): last result FAULT, and FAILED where a proof was running. -/
def Ev.stick (e : Ev) : Ev :=
  ((e.rest .stuck).result .fault).gov fun g =>
    { g with proofMark := if g.proofMark = .running then .failed else g.proofMark }

/-- A finding of the travel supervisor (R124). -/
def Ev.takeFinding (e : Ev) : Finding → Ev
  | .overspeed => e.latch .overspeed
  | .late => e.latch .late
  | .stall => (e.latch .stall).stick
  | .raiseStall => ((e.latch .raiseStall).rest .raiseHeld).result .fault

/-- A down arrival by state (Table 6-4). -/
def Ev.downArrival (e : Ev) : Ev :=
  match e.s.gov.state with
  | .down => e
  | .raising => (e.rest .down).result .fault
  | .raiseHeld => e.rest .down
  | .up => e.rest .down
  | .lowering => e.endDescent
  | .lowerHeld => e.rest .down
  | .dropping => e.endDescent
  | .stuck => e.rest .down

/-- An up arrival by state (Table 6-4). -/
def Ev.upArrival (e : Ev) : Ev :=
  match e.s.gov.state with
  | .raising => (e.rest .up).result .completed
  | .raiseHeld => e.rest .up
  | .down => e
  | .up => e
  | .lowering => e
  | .lowerHeld => e
  | .dropping => e
  | .stuck => e

/-- A disagreement of the limit pair (R121). -/
def Ev.disagree (e : Ev) : Ev :=
  let e := e.latch .limitDisagree
  match e.s.gov.state with
  | .down => e
  | .dropping => e
  | .raising => (e.result .fault).beginDescent .dropping .none
  | .raiseHeld => e.beginDescent .dropping .none
  | .up => e.beginDescent .dropping .none
  | .lowerHeld => e.beginDescent .dropping .none
  | .lowering => e.convertDrop
  | .stuck => ((e.gov fun g => { g with state := .dropping }).travel Travel.dropFromStuck).drop

/-- A limit event acts by its name (R105, R120, R121); clear of limits changes no curtain state. -/
def Ev.limitActs (e : Ev) : Ev :=
  match e.s.gov.pair with
  | .downArrival => e.downArrival
  | .upArrival => e.upArrival
  | .disagreement => e.disagree
  | .clear => e

/-- The governor takes a new house level (R123); a drop it forces while the pair reads down arrival ends at once (DESIGN
CHOICE, log 50). -/
def Ev.curtainLevel (e : Ev) (level : Nat) : Ev :=
  if 4 ≤ level then
    match e.s.gov.state with
    | .raising => (e.result .stopped).beginDescent .dropping .none
    | .raiseHeld => e.beginDescent .dropping .none
    | .up => e.beginDescent .dropping .none
    | .lowerHeld => e.beginDescent .dropping .none
    | .lowering => e.convertDrop
    | .down => e
    | .dropping => e
    | .stuck => e
  else if level = 3 && e.s.gov.state = .raising then (e.rest .raiseHeld).result .stopped
  else e

/-- The proven flag is cleared at the adoption of CLOSED or HOUSE_CLEAR (R127). -/
def Ev.clearProven (e : Ev) : Ev := e.gov fun g => { g with proven := false }

/-- The curtain summary of this station as it stands (R43, R128). -/
def State.ownSummary (s : State) : CurtainSummary :=
  { curtain := s.gov.curtain, state := s.gov.state, position := s.travel.position, proven := s.gov.proven,
    error := s.gov.error }

end Sys2Proof.Machine
end

