-- ==== Sys2Proof/Machine/Event.lean ====
section
/-! DEFINITION. The PRESENCE of a round (R42, R43), and the end of an event: the house level recomputed and handed on
(R95), the curtain told (R128), the warning call sent (R129), the first round made (R42), and the event's reports put
into the buffer (R189). -/
namespace Sys2Proof.Machine

/-! ### PRESENCE -/

/-- The roles of the station: its curtain number, and its lines, channels and sounders in use (R43, R46, R146,
R164). -/
def State.roles (s : State) : Roles :=
  { curtain := s.gov.curtain
    lines := (s.lines.records.filter fun l => l.kind != .unused).length
    channels := (s.lights.channels.filter LightChannel.inUse).length
    sounders := (s.calls.channels.filter DispatchChannel.inUse).length }

/-- A zone as a digest item and a ZONE_STATE carry it (R70). -/
def ZoneRec.item (z : ZoneRec) : DigestItem := ⟨z.number, z.state, z.isolated, z.epoch⟩

/-- The PRESENCE built from the state the station holds (R43). -/
def State.presence (s : State) (fresh : Bool) : Presence :=
  { roles := s.roles
    portA := s.loop.portA.state
    portB := s.loop.portB.state
    integrity := s.notices.integrity
    level := s.house.level
    phase := s.house.phase
    phaseSeq := s.house.phaseSeq
    phaseOrigin := s.house.phaseOrigin
    fresh := fresh
    digest := s.zones.map ZoneRec.item
    summary := if s.hasCurtain then some s.ownSummary else none }

/-- A round: the round count rises, saturating at 4, and the PRESENCE, FRESH while the count is 3 or below, is offered;
the next round is due 2,000 ms after this one (R42, R43). -/
def State.round (s : State) (at_ : Nat) : State :=
  let count := min 4 (s.notices.roundCount + 1)
  let s := { s with notices := { s.notices with roundCount := count, roundDue := some (at_ + roundMicros) } }
  s.send (.presence (s.presence (count ≤ 3)))

/-- PRESENCE_ROUND (R42): a round of the running round timer. -/
def execPresenceRound (s : State) : Host.Outcome State Fault Refusal :=
  match s.notices.roundDue with
  | none => next s
  | some due => next ((s.elapseTo due).round due)

/-! ### The end of an event -/

/-- The house level recomputed at the end of the event; a new one is held, reported, and handed to the curtain
governor, the fade engine and the call dispatcher (R95). -/
def Ev.levelStep (e : Ev) : Ev :=
  let old := e.s.house.level
  let new := e.s.house.computedLevel
  if new = old then e
  else
    let e := (e.on fun s => { s with house := { s.house with level := new } }).report (.level old new)
    let e := e.curtainLevel new
    let e := e.lights (LightChannel.takeLevel e.s.start.profile.overrideTime new)
    e.calls fun _ now c => c.takeLevel e.s.start.station now old new

/-- The fields of the motion status record that make a CURTAIN report of their own are as the event found them
(R128). -/
def Ev.motionUnchanged (e : Ev) : Bool :=
  e.s.gov.lastResult == e.before.lastResult && e.s.gov.proofMark == e.before.proofMark

/-- The event changed the curtain state, the latched error or the proven flag (R128). -/
def Ev.curtainChanged (e : Ev) : Bool :=
  e.s.gov.state != e.before.state || e.s.gov.error != e.before.error || e.s.gov.proven != e.before.proven

/-- The own summary entry takes state, position, proven flag and latched error, and makes its CURTAIN report where
anything it carries has changed (R97, R128). -/
def Ev.tellEntry (e : Ev) : Ev :=
  match e.s.curtain? e.s.gov.curtain with
  | none => e
  | some c =>
    let c' := c.take e.s.start.station e.s.ownSummary true
    if c' = c && e.motionUnchanged then e
    else (e.on fun s => { s with house := { s.house with
      curtains := update (fun x => x.curtain == s.gov.curtain) (fun _ => c') s.house.curtains } }).report
        (.curtainOwn c' e.s.gov.busy e.s.gov.lastResult e.s.gov.proofMark)

/-- The governor tells once, after all the changes of the event: the own summary entry, then the CURTAIN notice
(R128). -/
def Ev.tellStep (e : Ev) : Ev :=
  if e.s.hasCurtain then
    let e := e.tellEntry
    if e.curtainChanged then e.send (.curtain e.s.ownSummary (damperOutput e.s.gov e.s.travel)) else e
  else e

/-- The warning call of an event that entered DROPPING (R129). -/
def Ev.warnStep (e : Ev) : Ev := if e.dropped then e.warningCall else e

/-- The first round, at the moment the join state first becomes ACTIVE (R42). -/
def Ev.roundStep (e : Ev) : Ev := if e.joined then e.on fun s => s.round s.now else e

/-- The event up to its reports (log 11, log 12, log 13). -/
def Ev.settle (e : Ev) : Ev := e.levelStep.tellStep.warnStep.roundStep

/-- The event ends. -/
def Ev.finish (e : Ev) : State := e.settle.buffer

/-! ### The curtain's field inputs and timers -/

/-- The position of one limit switch as held. -/
def Governor.limit (g : Governor) : LimitSwitch → Bool
  | .down => g.downClosed
  | .up => g.upClosed

/-- A new position of one limit switch is held. -/
def Governor.setLimit (g : Governor) (sw : LimitSwitch) (closed : Bool) : Governor :=
  match sw with
  | .down => { g with downClosed := closed }
  | .up => { g with upClosed := closed }

/-- LIMIT_EVENT (R105): a steady change of a limit switch. The supervisor takes its limit sample before the governor
acts (R133). Before the settling the position is only held; a governor with no curtain reads no inputs (R107). -/
def execLimitEvent (switch : LimitSwitch) (closed : Bool) (encoder : Half) (s : State) :
    Host.Outcome State Fault Refusal :=
  if s.start.mode.isNone then next { s with gov := s.gov.setLimit switch closed }
  else if !s.hasCurtain || s.gov.limit switch == closed then next s
  else
    let e := (Ev.start s).gov fun g => g.setLimit switch closed
    let e := e.travel fun t => t.limitSample e.s.start.profile.params e.s.gov.pair encoder
    next e.limitActs.finish

/-- RAISE_KEY_CHANGE (R105, R119): a release while RAISING holds the raise. -/
def execRaiseKeyChange (pressed : Bool) (s : State) : Host.Outcome State Fault Refusal :=
  if s.start.mode.isNone then next { s with gov := { s.gov with raiseKey := pressed } }
  else if !s.hasCurtain || s.gov.raiseKey == pressed then next s
  else
    let e := (Ev.start s).gov fun g => { g with raiseKey := pressed }
    next (if !pressed && e.s.gov.state == .raising then ((e.rest .raiseHeld).result .stopped).finish else e.finish)

/-- RAISE_TIMEOUT (R122): the raise time reaches 90,000 ms in RAISING. In every other state it stands still. -/
def execRaiseTimeout (s : State) : Host.Outcome State Fault Refusal :=
  if s.gov.state = .raising then
    let e := Ev.start (s.elapse (raiseLimitMicros - s.gov.raiseMicros))
    next (((e.latch .raiseTimeout).rest .raiseHeld).result .fault).finish
  else next s

/-- TRAVEL_SAMPLE (R133, R144): a periodic sample is one event; its findings are handed to the governor in order. -/
def execTravelSample (encoder : Half) (s : State) : Host.Outcome State Fault Refusal :=
  match s.travel.sampleDue with
  | none => next s
  | some due =>
    let e := Ev.start (s.elapseTo due)
    let (t, found) := e.s.travel.periodicSample e.s.start.profile.params e.s.gov encoder
    let e := e.travel fun _ => { t with sampleDue := some (due + travelSampleMicros) }
    next (e.each found Ev.takeFinding).finish

end Sys2Proof.Machine
end

