-- ==== Sys2Proof/Machine/Chimes.lean ====
section
/-! DEFINITION. The chime and interval timers of the dispatch channels (R176, R177). -/
namespace Sys2Proof.Machine

/-- A dispatch channel with the record its bound call names. -/
def State.boundRecord (s : State) (channel : Nat) : Option (DispatchChannel × CallRec) :=
  match s.sounder? channel with
  | none => none
  | some d =>
    match d.bound with
    | none => none
    | some n => (s.calls.record? n).map fun r => (d, r)

/-- The moment a channel's chime ends, in SOUNDING (R165). -/
def DispatchState.chimeDue : DispatchState → Option Nat
  | .sounding _ due => some due
  | .idle => none
  | .interval _ => none

/-- The moment a channel's interval ends, in INTERVAL (R176). -/
def DispatchState.intervalDue : DispatchState → Option Nat
  | .interval due => some due
  | .idle => none
  | .sounding _ _ => none

/-- CHIME_END of a channel (R176, R177). -/
def execChimeEnd (channel : Nat) (s : State) : Host.Outcome State Fault Refusal :=
  match s.boundRecord channel with
  | none => next s
  | some (d, r) =>
    match d.state.chimeDue with
    | none => next s
    | some due =>
      next ((Ev.start (s.elapseTo due)).calls fun level now c => c.endChime level now d r).finish

/-- INTERVAL_END of a channel: the next chime of its bound call begins (R176). -/
def execIntervalEnd (channel : Nat) (s : State) : Host.Outcome State Fault Refusal :=
  match s.boundRecord channel with
  | none => next s
  | some (d, r) =>
    match d.state.intervalDue with
    | none => next s
    | some due =>
      next ((Ev.start (s.elapseTo due)).calls fun _ now c =>
        (c.setChannel channel (DispatchChannel.sound now r.pattern), [])).finish

end Sys2Proof.Machine
end

