-- ==== Sys2Proof/Machine/Zones.lean ====
section
/-! DEFINITION. The line scanner and the zone supervisor (chapter 3): reading classes (R48), the run filter and
latching (R49, R50), re-evaluation (R51), the alarmed set (R52), the quiet states (R55, R56), alarms (R57 to R60),
timers (R61), alert actions (R64 to R66), SILENCE (R68) and the telling of a zone (R70). -/
namespace Sys2Proof.Machine

/-! ### Lines -/

/-- The state that a reading's class leads to, by the first row of Table 3-1 it meets; each class leads to a state
of its own, so it stands for the class too (R48). A line of kind UNUSED has no class (R46). -/
def lineClass (k : LineKind) (r : Byte) : LineState :=
  match k with
  | .unused => .unused
  | k =>
    if r.toNat ≤ 7 then .faultOpen
    else if 248 ≤ r.toNat then .faultShort
    else if 160 ≤ r.toNat then .alarm
    else if 96 ≤ r.toNat && k == .smoke then .preAlarm
    else .normal

/-- The persistence count: 2 for the alarm class on a MANUAL line, 3 in every other case (R49). -/
def persistence (k : LineKind) (c : LineState) : Nat := if k = .manual ∧ c = .alarm then 2 else 3

/-- The run counter at a new reading (R49). -/
def LineRec.nextRun (l : LineRec) (r : Byte) : Nat :=
  if l.reading.map (lineClass l.kind) = some (lineClass l.kind r) then min 3 (l.run + 1) else 1

/-- One sample of a line (R46, R49, R50). -/
def LineRec.sample (masked : Bool) (r : Byte) (l : LineRec) : LineRec :=
  if l.kind = .unused then { l with reading := some r }
  else
    let c := lineClass l.kind r
    let run := l.nextRun r
    let l' := { l with reading := some r, run := run }
    if l.latched then l'
    else if persistence l.kind c ≤ run && c != l.state then
      { l' with state := c, latched := c == .alarm && !masked }
    else l'

/-- The reduced class of a latest reading (R51): an alarm-class reading gives PRE_ALARM on a SMOKE line and NORMAL on
a HEAT or MANUAL line; an absent reading gives NORMAL. -/
def reducedClass (k : LineKind) (reading : Option Byte) : LineState :=
  match reading with
  | none => .normal
  | some r =>
    match lineClass k r with
    | .alarm => if k = .smoke then .preAlarm else .normal
    | c => c

/-- Re-evaluation of a line without a latch, or whose latch is cleared (R51). -/
def LineRec.reevaluate (l : LineRec) : LineRec :=
  { l with run := 0, state := reducedClass l.kind l.reading, latched := false }

/-- A used line of a zone (R52). -/
def LineRec.inZone (z : Nat) (l : LineRec) : Bool := l.kind != .unused && l.zone == z

/-- A SMOKE line is masked while its zone's isolation is in force (R52, R74). -/
def LineRec.masked (isolated : Bool) (l : LineRec) : Bool := l.kind == .smoke && isolated

/-- The line contributes to a zone (R52). -/
def LineRec.contributes (z : Nat) (isolated : Bool) (l : LineRec) : Bool := l.inZone z && !l.masked isolated

/-- The alarmed set of a zone (R52). -/
def alarmedSet (lines : List LineRec) (z : Nat) (isolated : Bool) : List LineRec :=
  lines.filter fun l => l.contributes z isolated && l.state == .alarm

/-- The alarmed-line count of an owned zone (R52, R53). -/
def State.alarmedCount (s : State) (z : ZoneRec) : Nat := (alarmedSet s.lines.records z.number z.isolated).length

/-- FAULT_OPEN and FAULT_SHORT are the fault states (R48). -/
def LineState.isFault : LineState → Bool
  | .faultOpen => true
  | .faultShort => true
  | .normal => false
  | .preAlarm => false
  | .alarm => false
  | .unused => false

/-- The quiet state that a zone's contributing lines give (R55). -/
def derivedState (lines : List LineRec) (z : Nat) (isolated : Bool) : ZoneState :=
  let mine := lines.filter (LineRec.contributes z isolated)
  if mine.any fun l => l.state == .preAlarm then .preAlarm
  else if mine.any fun l => l.state.isFault then .fault
  else .quiet

/-- A zone's state after a derivation: a zone in a quiet state with an empty alarmed set takes the derived state, and
every other zone keeps its own (R55, R59, R60, R75). -/
def ZoneRec.rederived (lines : List LineRec) (isolated : Bool) (r : ZoneRec) : ZoneState :=
  if r.state.isQuiet && (alarmedSet lines r.number isolated).isEmpty then derivedState lines r.number isolated
  else r.state

/-- Cause of a change between quiet states, and FAULT where the state is unchanged (R56). -/
def quietCause (old new : ZoneState) : Cause :=
  if old = new then .fault
  else
    match new with
    | .preAlarm => .smoke
    | .quiet => if old = .preAlarm then .smoke else .fault
    | _ => .fault

/-! ### Changing and telling a zone (R70) -/

/-- A change of a zone's record: its epoch advances, and its last cause is written, where the change is of its state or
isolated attribute (R70). -/
def ZoneRec.told (old new : ZoneRec) (cause : Cause) : ZoneRec :=
  if new.state = old.state ∧ new.isolated = old.isolated then new
  else { new with epoch := old.epoch + 1, lastCause := some cause }

/-- An owned zone's record replaced. -/
def State.setZone (s : State) (z : Nat) (r : ZoneRec) : State :=
  { s with zones := update (fun x => x.number == z) (fun _ => r) s.zones }

/-- A change of an owned zone's record, told to the house and to the station where the state or the isolated attribute
changes (R70). -/
def Ev.changeZone (e : Ev) (z : Nat) (f : ZoneRec → ZoneRec) (cause : Cause) : Ev :=
  match e.s.zone? z with
  | none => e
  | some r =>
    let w := r.told (f r) cause
    let e := e.on fun s => s.setZone z w
    if w.state = r.state ∧ w.isolated = r.isolated then e
    else (e.send (.zoneState w.item cause)).tellView w.item

/-- The used lines of a zone that meet a test, re-evaluated. -/
def Ev.reevaluate (e : Ev) (z : Nat) (test : LineRec → Bool) : Ev :=
  e.on fun s => { s with lines := { s.lines with
    records := update (fun l => l.inZone z && test l) LineRec.reevaluate s.lines.records } }

/-- A zone is derived from its lines (R55). -/
def Ev.derive (e : Ev) (z : Nat) : Ev :=
  match e.s.zone? z with
  | none => e
  | some r =>
    let st := r.rederived e.s.lines.records r.isolated
    e.changeZone z (fun r => { r with state := st }) (quietCause r.state st)

/-! ### Alarms (R57 to R60) -/

/-- HEAT or MANUAL, after the lowest-numbered HEAT or MANUAL line joining, or none (Table 3-3). -/
def keptLiveCause (joined : List LineRec) : Option Cause :=
  (joined.find? fun l => l.kind != .smoke).map fun l => if l.kind = .heat then .heat else .manual

/-- The phases in which staff are on duty (R57). -/
def Phase.staffed : Phase → Bool
  | .rehearsal => true
  | .houseOpen => true
  | .performance => true
  | .interval => true
  | .closed => false
  | .houseClear => false

/-- A zone in a quiet state enters an alarm state with a cause that is its first cause too (R57, R58). -/
def ZoneRec.enter (st : ZoneState) (cause : Cause) (r : ZoneRec) : ZoneRec × Cause :=
  ({ r with state := st, firstCause := some cause }, cause)

/-- One SMOKE line joins a zone in a quiet state (R57). -/
def ZoneRec.judgeSmoke (phase : Phase) (ackDue : Nat) (r : ZoneRec) : ZoneRec × Cause :=
  if r.investigable && phase.staffed then
    ({ r with state := .alert, firstCause := some .smoke, acknowledged := false, ackDue := some ackDue }, .smoke)
  else r.enter .confirmed .notInvestigable

/-- Lines join the alarmed set of a zone at one handover (R57 to R60); the cause counts where the state changes. -/
def ZoneRec.join (phase : Phase) (ackDue : Nat) (joined : List LineRec) (r : ZoneRec) : ZoneRec × Cause :=
  match r.state with
  | .alert =>
    ({ r with state := .confirmed, ackDue := none, investigationDue := none },
     (keptLiveCause joined).getD .coincidence)
  | .confirmed => (r, .smoke)
  | .silenced => ({ r with state := .confirmed }, (keptLiveCause joined).getD .smoke)
  | _ =>
    match keptLiveCause joined with
    | some cause => r.enter .confirmed cause
    | none => if joined.length = 1 then r.judgeSmoke phase ackDue else r.enter .confirmed .coincidence

/-- A line joins an alarmed set at a sample: it contributes, and its state becomes ALARM (R52). -/
def joins (isolated : Bool) (old new : LineRec) : Bool :=
  !new.masked isolated && old.state != .alarm && new.state == .alarm

/-- The moment a timer of so many seconds, started now, is due. -/
def State.dueIn (s : State) (seconds : Nat) : Nat := s.now + seconds * 1000000

/-- One zone's part of a handover: the lines of the zone that changed, with their records before and after (R47, R55,
R57 to R60). -/
def Ev.handover (changed : List (LineRec × LineRec)) (e : Ev) (z : Nat) : Ev :=
  let mine := changed.filter fun c => c.2.inZone z
  if mine.isEmpty then e
  else
    match e.s.zone? z with
    | none => e
    | some r =>
      let joined := (mine.filter fun c => joins r.isolated c.1 c.2).map Prod.snd
      if joined.isEmpty then e.derive z
      else
        let w := r.join e.s.house.phase (e.s.dueIn e.s.start.profile.ackWindow) joined
        e.changeZone z (fun _ => w.1) w.2

/-- The station's owned zone numbers in rising order. -/
def State.ownedZones (s : State) : List Nat := s.zones.map ZoneRec.number

/-- A line is masked at this station (R52). -/
def State.isMasked (s : State) (l : LineRec) : Bool :=
  match s.zone? l.zone with
  | none => false
  | some r => l.masked r.isolated

/-- The reading of a line in a sample of all 32. -/
def readingOf (readings : Vector Byte 32) (line : Nat) : Byte := (readings.toList[line - 1]?).getD 0

/-- A line's record before and after a sample. -/
def State.sampleLine (s : State) (readings : Vector Byte 32) (l : LineRec) : LineRec × LineRec :=
  (l, l.sample (s.isMasked l) (readingOf readings l.number))

/-- The line changed at the sample: its state or latched flag (R47; its contribution moves with a mask alone). -/
def lineChanged (c : LineRec × LineRec) : Bool := c.1.state != c.2.state || c.1.latched != c.2.latched

/-- LINE_SAMPLE (R47): a sample of the running sample timer, handed over as one event. Several zones changed by one sample
are told, and offer their ZONE_STATE notices, in rising order of zone number (DESIGN CHOICE, log 46). -/
def execLineSample (readings : Vector Byte 32) (s : State) : Host.Outcome State Fault Refusal :=
  match s.lines.sampleDue with
  | none => next s
  | some due =>
    let s := s.elapseTo due
    let sampled := s.lines.records.map (s.sampleLine readings)
    let e := (Ev.start s).on fun s => { s with lines :=
      { records := sampled.map Prod.snd, sampleDue := some (due + lineSampleMicros) } }
    next (e.each e.s.ownedZones (Ev.handover (sampled.filter lineChanged))).finish

/-! ### Timers and alert actions (R61 to R66) -/

/-- CONFIRMED, with both timers away (R59, R61, R65). -/
def ZoneRec.confirm (r : ZoneRec) : ZoneRec :=
  { r with state := .confirmed, ackDue := none, investigationDue := none }

/-- ACK_WINDOW_EXPIRY (R61) of a zone in ALERT whose ack window timer runs. -/
def execAckWindowExpiry (zone : Nat) (s : State) : Host.Outcome State Fault Refusal :=
  match s.zone? zone with
  | none => next s
  | some r =>
    match r.ackDue with
    | none => next s
    | some due =>
      if r.state = .alert then
        next ((Ev.start (s.elapseTo due)).changeZone zone
          (fun r => { r with state := .confirmed, ackDue := none }) .ackExpiry).finish
      else next s

/-- INVESTIGATION_EXPIRY (R61) of a zone in ALERT whose investigation timer runs. -/
def execInvestigationExpiry (zone : Nat) (s : State) : Host.Outcome State Fault Refusal :=
  match s.zone? zone with
  | none => next s
  | some r =>
    match r.investigationDue with
    | none => next s
    | some due =>
      if r.state = .alert then
        next ((Ev.start (s.elapseTo due)).changeZone zone
          (fun r => { r with state := .confirmed, investigationDue := none }) .investigationExpiry).finish
      else next s

/-- An ACK taken by the owner (R64). -/
def Ev.takeAck (e : Ev) (r : ZoneRec) : Ev × Answer :=
  if r.state = .alert then
    if r.acknowledged then (e, .accepted)
    else
      let due := e.s.dueIn e.s.start.profile.investigation
      ((e.changeZone r.number (fun r => { r with
          ackDue := none
          investigationDue := some due
          acknowledged := true }) .smoke).report (.zoneAck r.number .alert true), .accepted)
  else if r.state = .confirmed ∧ r.lastCause = some .ackExpiry then (e, .refused .tooLate)
  else (e, .refused .zoneState)

/-- A CONFIRM taken by the owner (R65). -/
def Ev.takeConfirm (e : Ev) (r : ZoneRec) : Ev × Answer :=
  if r.state = .alert then (e.changeZone r.number ZoneRec.confirm .confirmedByPanel, .accepted)
  else (e, .refused .zoneState)

/-- The record that a CANCEL or a house reset leaves, with the derived state (R66, R69). -/
def ZoneRec.released (st : ZoneState) (r : ZoneRec) : ZoneRec :=
  { r with
    state := st
    ackDue := none
    investigationDue := none
    acknowledged := false
    firstCause := none }

/-- A CANCEL taken by the owner (R66). -/
def Ev.takeCancel (e : Ev) (r : ZoneRec) : Ev × Answer :=
  if r.state = .alert then
    let e := e.reevaluate r.number fun l => l.kind == .smoke
    (e.changeZone r.number (ZoneRec.released (derivedState e.s.lines.records r.number r.isolated)) .cancel,
     .accepted)
  else (e, .refused .zoneState)

/-- An alert action taken by the zone supervisor of the zone's owner (R64 to R66). -/
def Ev.takeAlert (e : Ev) (a : AlertAction) (r : ZoneRec) : Ev × Answer :=
  match a with
  | .ack => e.takeAck r
  | .confirm => e.takeConfirm r
  | .cancel => e.takeCancel r

/-- A delivered ALERT_ACTION: taken where this station owns the zone, ignored elsewhere (R63). -/
def Ev.deliverAlert (e : Ev) (zone : Nat) (a : AlertAction) : Ev :=
  match e.s.zone? zone with
  | none => e
  | some r => (e.takeAlert a r).1

/-- SILENCE at one owned zone: CONFIRMED becomes SILENCED, with the first cause (R68); one without a first cause takes
SMOKE (DESIGN CHOICE, log 41). -/
def Ev.silenceZone (e : Ev) (z : Nat) : Ev :=
  match e.s.zone? z with
  | none => e
  | some r =>
    if r.state = .confirmed then
      e.changeZone z (fun r => { r with state := .silenced }) (r.firstCause.getD .smoke)
    else e

end Sys2Proof.Machine
end

