-- ==== Sys2Proof/Machine/Isolations.lean ====
section
/-! DEFINITION. Isolations (chapter 4): making and replacing (R77, R78), ending (R79, R80), warning and expiry (R81),
suspension (R83) and the keys (R76), with the ISOLATION reports (R85); and the house reset at the owned zones (R69). -/
namespace Sys2Proof.Machine

/-- A zone's isolation is in force: its isolated attribute is set (R75). -/
def State.inForce (s : State) (z : Nat) : Bool := (s.zone? z).any ZoneRec.isolated

/-- An ISOLATION report of a record, with its remaining minutes and whether the zone's isolation is in force after the
event (R85). -/
def Ev.isolationReport (e : Ev) (z : Nat) (event : IsolationEvent) (r : IsolationRec) : Ev :=
  e.report (.isolation z event r.kind (r.minutes e.s.now) (e.s.inForce z))

/-- The isolation record of a zone changes, and nothing else (R75: no epoch, no telling). -/
def Ev.writeIsolation (e : Ev) (z : Nat) (rec : Option IsolationRec) : Ev :=
  e.changeZone z (fun r => { r with isolation := rec }) .fault

/-- The isolated attribute of a zone takes a value, with the record it comes from, the re-evaluation that the end of
masking brings (R74), and the re-derivation and one telling of R75. -/
def Ev.setIsolated (e : Ev) (z : Nat) (isolated : Bool) (rec : Option IsolationRec) : Ev :=
  match e.s.zone? z with
  | none => e
  | some r =>
    if r.isolated = isolated then e.writeIsolation z rec
    else
      let e := if isolated then e else e.reevaluate z fun l => l.kind == .smoke && !l.latched
      let st := r.rederived e.s.lines.records isolated
      e.changeZone z (fun r => { r with state := st, isolated := isolated, isolation := rec })
        (quietCause r.state st)

/-! ### Making (R77, R78) -/

/-- The isolation kind of a code (Table 10-2). -/
def IsolationKind.ofCode (b : Byte) : Option IsolationKind :=
  if b = 0 then some .show else if b = 1 then some .service else none

/-- Minutes clamped into 1 to 240 (R78). -/
def clampMinutes (m : Nat) : Nat := max 1 (min m 240)

/-- The record an accepted ISOLATE builds (R78). -/
def isolationOf (kind : IsolationKind) (minutes : Option Half) (now : Nat) : IsolationRec :=
  ⟨kind, minutes.map fun m => now + clampMinutes m.toNat * 60000000, false⟩

/-- The expiry warning is made, and the warned flag set (R81). -/
def Ev.warnIsolation (e : Ev) (z : Nat) (r : IsolationRec) : Ev :=
  (e.writeIsolation z (some { r with warned := true })).isolationReport z .warning r

/-- An accepted ISOLATE acts (R78): the record is made or replaced, and a short one is warned of at once. -/
def Ev.makeIsolation (e : Ev) (zone : ZoneRec) (r : IsolationRec) : Ev :=
  let z := zone.number
  let e :=
    if zone.isolation.isSome then (e.writeIsolation z (some r)).isolationReport z .replaced r
    else (e.setIsolated z (!e.s.suspended) (some r)).isolationReport z .made r
  match r.expiry with
  | none => e
  | some due => if due ≤ e.s.now + warningMicros then e.warnIsolation z r else e

/-- ISOLATE with the checks of Table 4-1 in order (R77). A zone in an alarm state makes the house level 3 or more, so
HOUSE_LEVEL is what such an ISOLATE meets; Table 4-2 names ZONE_STATE in its fourth row (R84): DEDUCED, log 47. -/
def Ev.takeIsolate (e : Ev) (zone kind : Byte) (minutes : Option Half) : Ev × Answer :=
  match IsolationKind.ofCode kind with
  | none => (e, .refused .badArgument)
  | some k =>
    if k = .service ∧ minutes = none then (e, .refused .badArgument)
    else if !e.s.zoneKnown zone.toNat then (e, .refused .unknownZone)
    else
      match e.s.zone? zone.toNat with
      | none => (e, .refused .notOwner)
      | some r =>
        if !e.s.keyTurnedFor k then (e, .refused .keyRequired)
        else if k = .show ∧ e.s.house.phase ≠ .rehearsal ∧ e.s.house.phase ≠ .performance then
          (e, .refused .phase)
        else if 3 ≤ e.s.house.level then (e, .refused .houseLevel)
        else if !r.state.isQuiet then (e, .refused .zoneState)
        else (e.makeIsolation r (isolationOf k minutes e.s.now), .accepted)

/-! ### Ending (R79 to R82) -/

/-- The isolation of a zone is ended (R79). -/
def Ev.endIsolation (e : Ev) (z : Nat) (reason : EndReason) : Ev :=
  match e.s.zone? z with
  | none => e
  | some zone =>
    match zone.isolation with
    | none => e
    | some r => (e.setIsolated z false none).isolationReport z (.ended reason) r

/-- DEISOLATE with its checks in order (R80). -/
def Ev.takeDeisolate (e : Ev) (zone : Byte) : Ev × Answer :=
  if !e.s.zoneKnown zone.toNat then (e, .refused .unknownZone)
  else
    match e.s.zone? zone.toNat with
    | none => (e, .refused .notOwner)
    | some z =>
      match z.isolation with
      | none => (e, .accepted)
      | some r =>
        if !e.s.keyTurnedFor r.kind then (e, .refused .keyRequired)
        else (e.endIsolation zone.toNat .deisolate, .accepted)

/-- The remaining time of a zone's isolation, as the moment it reaches 0, with its record. -/
def State.isolationDue (s : State) (zone : Nat) : Option (IsolationRec × Nat) :=
  match s.zone? zone with
  | none => none
  | some z =>
    match z.isolation with
    | none => none
    | some r => r.expiry.map fun due => (r, due)

/-- ISOLATION_WARNING (R81): the remaining time reaches 300,000 ms with the warned flag clear. -/
def execIsolationWarning (zone : Nat) (s : State) : Host.Outcome State Fault Refusal :=
  match s.isolationDue zone with
  | none => next s
  | some (r, due) =>
    if r.warned then next s
    else next ((Ev.start (s.elapseTo (due - warningMicros))).warnIsolation zone r).finish

/-- ISOLATION_EXPIRY (R81): the remaining time reaches 0. -/
def execIsolationExpiry (zone : Nat) (s : State) : Host.Outcome State Fault Refusal :=
  match s.isolationDue zone with
  | none => next s
  | some (_, due) => next ((Ev.start (s.elapseTo due)).endIsolation zone .expiry).finish

/-- The SHOW isolations end at the adoption of a phase, one zone after another (R82). -/
def Ev.endShow (e : Ev) (z : Nat) : Ev :=
  match e.s.zone? z with
  | none => e
  | some zone =>
    match zone.isolation with
    | none => e
    | some r => if r.kind = .show then e.endIsolation z .phase else e

/-! ### Suspension (R83) and the keys (R76) -/

/-- A zone's isolation is suspended (R83). -/
def Ev.suspendZone (e : Ev) (z : Nat) : Ev :=
  match e.s.zone? z with
  | none => e
  | some zone =>
    match zone.isolation with
    | none => e
    | some r => (e.setIsolated z false (some r)).isolationReport z .suspended r

/-- A zone's isolation comes back into force (R83). -/
def Ev.restoreZone (e : Ev) (z : Nat) : Ev :=
  match e.s.zone? z with
  | none => e
  | some zone =>
    match zone.isolation with
    | none => e
    | some r => (e.setIsolated z true (some r)).isolationReport z .restored r

/-- MANAGER_KEY_CHANGE (R76): a position read steadily for 50 ms. -/
def execManagerKeyChange (pos : ManagerPos) (s : State) : Host.Outcome State Fault Refusal :=
  next { s with manager := some pos }

/-- ENGINEER_KEY_CHANGE (R76, R83): a position read steadily for 50 ms; reaching SUSPEND suspends every isolation,
leaving it restores every one. The first position after a reset is no change and is only held (R76, log 17). -/
def execEngineerKeyChange (pos : EngineerPos) (s : State) : Host.Outcome State Fault Refusal :=
  let e := (Ev.start s).on fun s => { s with engineer := some pos }
  if s.engineer.isNone then next e.finish
  else if !s.suspended && pos == .suspend then next (e.each s.ownedZones Ev.suspendZone).finish
  else if s.suspended && pos != .suspend then next (e.each s.ownedZones Ev.restoreZone).finish
  else next e.finish

/-! ### The house reset at the zone supervisor (R69, R82) -/

/-- The record of an isolation that a house reset ends: one of kind SHOW (R82). -/
def ZoneRec.showIsolation (r : ZoneRec) : Option IsolationRec :=
  match r.isolation with
  | none => none
  | some i => if i.kind = .show then some i else none

/-- HOUSE_RESET at one owned zone: latches cleared and every used line re-evaluated, a SHOW isolation ended, timers,
acknowledged flag and first cause cleared, and the zone re-derived and told once with cause RESET (R69, R82). -/
def Ev.resetZone (e : Ev) (z : Nat) : Ev :=
  match e.s.zone? z with
  | none => e
  | some r =>
    let e := e.reevaluate z fun _ => true
    let ended := r.showIsolation
    let isolated := r.isolated && ended.isNone
    let e := e.changeZone z (fun r =>
      { (r.released (derivedState e.s.lines.records z isolated)) with
        isolated := isolated
        isolation := if ended.isSome then none else r.isolation }) .reset
    match ended with
    | none => e
    | some i => e.isolationReport z (.ended .reset) i

end Sys2Proof.Machine
end

