-- ==== Sys2Proof/Machine/Phase.lean ====
section
/-! DEFINITION. House commands (R93) and the show phase record (R99 to R101). -/
namespace Sys2Proof.Machine

/-- A house command is applied at a station as one event (R93): an EVACUATE acts on zone 0, a SILENCE on zone 0 and the
owned zones, and a HOUSE_RESET empties the first-alarm order before it acts on both. The owned zones are told in rising
order of zone number (DESIGN CHOICE, log 46). -/
def Ev.applyHouse (e : Ev) (c : HouseCommand) (origin : Nat) (seq : Byte) : Ev :=
  match c with
  | .evacuate => e.houseZone .evacuate origin seq
  | .silence => (e.houseZone .silence origin seq).each e.s.ownedZones Ev.silenceZone
  | .houseReset => ((e.emptyFirst).houseZone .houseReset origin seq).each e.s.ownedZones Ev.resetZone

/-- A key check of R93: SILENCE and HOUSE_RESET need the manager key. -/
def HouseCommand.needsManager : HouseCommand → Bool
  | .evacuate => false
  | .silence => true
  | .houseReset => true

/-- A house command from the panel (R93): the key, the next command sequence (R28), the offer, and the application here
with this station as origin. The command counter advances whether or not the queue takes the notice (R28). -/
def Ev.takeHouse (e : Ev) (c : HouseCommand) : Ev × Answer :=
  if c.needsManager && !e.s.managerTurned then (e, .refused .keyRequired)
  else
    let seq := e.s.notices.commandSeq
    let e := e.on fun s => { s with notices := { s.notices with commandSeq := seq + 1 } }
    if e.s.takesNotice (.houseCmd c seq) then
      ((e.send (.houseCmd c seq)).applyHouse c e.s.start.station seq, .forwarded)
    else (e, .refused .loopBusy)

/-- SHOW isolations end at every phase but REHEARSAL and PERFORMANCE (R82). -/
def Phase.keepsShow : Phase → Bool
  | .rehearsal => true
  | .performance => true
  | .closed => false
  | .houseOpen => false
  | .interval => false
  | .houseClear => false

/-- The phases that clear the proven flag (R101, R127). -/
def Phase.clearsProof : Phase → Bool
  | .closed => true
  | .houseClear => true
  | .rehearsal => false
  | .houseOpen => false
  | .performance => false
  | .interval => false

/-- A changed phase is handed to the zone supervisor, the curtain governor and the call dispatcher (R101). -/
def Ev.handPhase (e : Ev) (p : Phase) : Ev :=
  let e := if p.keepsShow then e else e.each e.s.ownedZones Ev.endShow
  let e := if p.clearsProof then e.clearProven else e
  e.phaseCall p

/-- A triplet is adopted (R101). -/
def Ev.adoptPhase (e : Ev) (p : Phase) (seq : Half) (origin : Nat) : Ev :=
  let changed := e.s.house.phase != p
  let e := (e.on fun s => { s with house := { s.house with
    phase := p
    phaseSeq := seq
    phaseOrigin := origin } }).report (.phase p seq origin)
  if changed then e.handPhase p else e

/-- The tests of R100 on a triplet from a peer. -/
def House.adoptsPhase (h : House) (seq : Half) (origin : Nat) : Bool :=
  newer seq h.phaseSeq || (seq == h.phaseSeq && h.phaseOrigin < origin)

/-- A triplet from a peer is adopted or discarded (R100). -/
def Ev.takeTriplet (e : Ev) (p : Phase) (seq : Half) (origin : Nat) : Ev :=
  if e.s.house.adoptsPhase seq origin then e.adoptPhase p seq origin else e

/-- A present curtain that is not proven (R99). -/
def House.unproven (h : House) : Bool := h.curtains.any fun c => c.present && !c.proven

/-- SET_PHASE with its checks in order (R99). -/
def Ev.takeSetPhase (e : Ev) (phase : Byte) : Ev × Answer :=
  match Phase.ofCode phase with
  | none => (e, .refused .badArgument)
  | some p =>
    if (p = .houseOpen ∨ p = .performance) ∧ 2 ≤ e.s.house.level then (e, .refused .houseLevel)
    else if p = .houseOpen ∧ e.s.house.unproven = true then (e, .refused .notProven)
    else
      let seq := e.s.house.phaseSeq + 1
      if e.s.takesNotice (.phase p seq) then
        ((e.send (.phase p seq)).adoptPhase p seq e.s.start.station, .forwarded)
      else (e, .refused .loopBusy)

end Sys2Proof.Machine
end

