-- ==== Sys2Proof/Machine/Roster.lean ====
section
/-! DEFINITION. The receiving side of the notice unit: acceptance (R36), restart (R41), the presence signals (R39, R40),
and delivery (R37, R103); with the expiries of the absence timer and of the return limit. -/
namespace Sys2Proof.Machine

/-- A roster entry replaced. -/
def State.setPeer (s : State) (n : Nat) (f : Peer → Peer) : State :=
  { s with notices := { s.notices with roster := update (fun p => p.number == n) f s.notices.roster } }

/-! ### Acceptance (R36, R41) -/

/-- The FRESH flag of a well-formed PRESENCE; no other notice carries one (R36, log 14). -/
def freshOf (n : Option Notice) : Bool :=
  match n with
  | some (.presence p) => p.fresh
  | _ => false

/-- The notice marks a restart of its origin (R41). -/
def Peer.restarts (p : Peer) (n : Option Notice) : Bool := freshOf n && !p.freshSeen

/-- A notice of a sequence is accepted from an entry (R36, R41). -/
def Peer.accepts (p : Peer) (seq : Byte) (n : Option Notice) : Bool :=
  p.restarts n ||
    (match p.state with
     | .self => false
     | .absent => true
     | .present => (match p.lastSeq with | none => true | some o => newer seq o))

/-- The fresh-seen mark after an acceptance: set by a restart, cleared by a PRESENCE without FRESH (R41). -/
def Peer.freshAfter (p : Peer) (n : Option Notice) : Bool :=
  match n with
  | some (.presence b) => b.fresh
  | _ => p.freshSeen

/-- The latest presence after an acceptance (R38). -/
def Peer.latestAfter (p : Peer) (n : Option Notice) : Option LatestPresence :=
  match n with
  | some (.presence b) => some ⟨b.roles, b.portA, b.portB, b.integrity, b.level⟩
  | _ => p.latest

/-- The entry after an acceptance (R36, R38, R40, R41). -/
def Peer.accept (p : Peer) (now : Nat) (seq : Byte) (ring : Ring) (n : Option Notice) : Peer :=
  { p with
    state := .present
    lastSeq := some seq
    absenceDue := some (now + absenceMicros)
    ring := some ring
    freshSeen := p.freshAfter n
    latest := p.latestAfter n }

/-- The signal that a peer became PRESENT (R40, R98). -/
def Ev.signalPresent (e : Ev) (station : Nat) (ring : Ring) : Ev :=
  (e.report (.loopPeerPresent station ring)).setPresent station true

/-- The signal that a peer restarted (R41, R91). -/
def Ev.signalRestart (e : Ev) (station : Nat) : Ev :=
  (e.report (.loopPeerRestarted station)).forgetEpochs station

/-! ### Delivery (R37, R103) -/

/-- A PRESENCE at the house condition unit, its parts in order: digest items, phase triplet, curtain summary (R103). -/
def Ev.takePresence (e : Ev) (origin : Nat) (p : Presence) : Ev :=
  let e := e.each p.digest fun e d => e.adoptItem origin d none
  let e := e.takeTriplet p.phase p.phaseSeq p.phaseOrigin
  match p.summary with
  | none => e
  | some m => e.takeCurtain origin m none

/-- A CURTAIN_REQ at the curtain governor whose curtain number it names (R37, R112). -/
def Ev.deliverRequest (e : Ev) (curtain : Nat) (a : CurtainAction) : Ev :=
  if e.s.hasCurtain && curtain == e.s.gov.curtain then (e.takeRequest a).1 else e

/-- A well-formed notice is delivered to the block that owns its matter (Table 2-1). -/
def Ev.deliver (e : Ev) (origin : Nat) (n : Notice) : Ev :=
  match n with
  | .presence p => e.takePresence origin p
  | .zoneState d cause => e.adoptItem origin d (some cause)
  | .alertAction z a => e.deliverAlert z a
  | .houseCmd c seq => e.applyHouse c origin seq
  | .phase p seq => e.takeTriplet p seq origin
  | .curtain m stage => e.takeCurtain origin m (some stage)
  | .curtainReq n a => e.deliverRequest n a
  | .lightCue groups a => e.on fun s => s.applyLight groups a
  | .call d => e.applyCall origin d
  | .callCancel n => e.calls fun level now c => c.finish level now n .cancelled
  | .callAck n area => e.calls fun level now c => c.finish level now n (.answered area)

/-- An accepted notice: the entry, the presence and restart signals, and then the delivery; one that is not well formed
is delivered to no block (R36, R37, R40, R41). Signals and delivery are parts of one event, so their reports join the
buffer in the order of R189 over all of them (DESIGN CHOICE, log 48). -/
def Ev.acceptNotice (e : Ev) (p : Peer) (seq : Byte) (ring : Ring) (n : Option Notice) : Ev :=
  let e := e.on fun s => s.setPeer p.number fun p => p.accept s.now seq ring n
  let e := if p.state = .absent then e.signalPresent p.number ring else e
  let e := if p.restarts n then e.signalRestart p.number else e
  match n with
  | none => e
  | some n => e.deliver p.number n

/-- A notice offered by the loop interface is accepted or discarded (R36). -/
def Ev.offered (e : Ev) (f : Frame) (ring : Ring) : Ev :=
  let n := Notice.parse f.kind f.body
  match e.s.peer? f.origin.toNat with
  | none => e
  | some p => if p.accepts f.seq n then e.acceptNotice p f.seq ring n else e

/-! ### The expiries -/

/-- The entry of a peer that becomes ABSENT (R39). -/
def Peer.lose (p : Peer) : Peer :=
  { p with
    state := .absent
    lastSeq := none
    absenceDue := none
    freshSeen := false }

/-- ABSENCE_TIMER_EXPIRY of a PRESENT peer (R39): the entry, the LOOP report, and the signal to the view and the
curtain table (R90, R98). -/
def execAbsenceTimerExpiry (station : Nat) (s : State) : Host.Outcome State Fault Refusal :=
  match s.peer? station with
  | none => next s
  | some p =>
    match p.absenceDue with
    | none => next s
    | some due =>
      if p.state = .present then
        let e := (Ev.start (s.elapseTo due)).on fun s => s.setPeer station Peer.lose
        next (((e.report (.loopPeerAbsent station)).loseOwner station).setPresent station false).finish
      else next s

/-- RETURN_LIMIT_EXPIRY of the awaiting entry of a sequence (R34, R35). -/
def execReturnLimitExpiry (seq : Byte) (s : State) : Host.Outcome State Fault Refusal :=
  next ((Ev.start s).expireReturn seq).finish

end Sys2Proof.Machine
end

