-- ==== Sys2Proof/Machine/LoopLine.lean ====
section
/-! DEFINITION. The loop interface (chapter 1): symbols and assemblers (R3, R15), good frames (R6 to R8, R10), joining
(R17, R18), the transmitters (R9, R11 to R13) and the loop tests (R20 to R23). -/
namespace Sys2Proof.Machine

/-! ### Symbols and the assembler (R3) -/

/-- The bytes of the longest frame (Table 1-1). -/
def longestFrame : Nat := 55

/-- What a symbol makes of the frame in progress, and the bytes of a frame its closing mark completes (R3). -/
def gather (frame : Option (List Byte)) (sym : Symbol) : Option (List Byte) × Option (List Byte) :=
  match sym with
  | .opening => (some [], none)
  | .closing => (none, frame)
  | .abort => (none, none)
  | .gapFill => (none, none)
  | .invalid => (none, none)
  | .data b =>
    match frame with
    | none => (none, none)
    | some bytes => if bytes.length < longestFrame then (some (bytes ++ [b]), none) else (none, none)

/-- A change of one port's record. -/
def State.onPort (s : State) (p : Port) (f : PortRec → PortRec) : State :=
  { s with loop := s.loop.setPort p (f (s.loop.port p)) }

/-- A change of one direction. -/
def State.onDir (s : State) (r : Ring) (f : Direction → Direction) : State :=
  { s with loop := s.loop.setDir r (f (s.loop.dir r)) }

/-- A symbol restarts the port's silence timer (R15) and, in BYPASS, the lone-start timer (R18); an invalid symbol
restarts neither. -/
def State.restartTimers (s : State) (p : Port) (sym : Symbol) : State :=
  if sym = .invalid then s
  else
    let s := s.onPort p fun r => { r with silenceDue := s.now + silenceMicros }
    { s with loop := { s.loop with
      loneDue := if s.loop.join = .bypass then some (s.now + loneMicros) else s.loop.loneDue } }

/-! ### Transmitters (R9, Table 1-4) -/

/-- GAP entered after a closing mark or a change of join state: two gap fill symbols are due (R2). -/
def gapFrom (now : Nat) : Transmitter := .gap (now + gapMicros)

/-- The moment the symbol in course ends, on a line whose symbols began at a moment (R2). -/
def symbolEnd (began now : Nat) : Nat := began + (now - began + symbolMicros - 1) / symbolMicros * symbolMicros

/-- An insertion in progress is aborted: the symbol in course is sent out, and the abort mark is the next (R12, R21,
log 42). DESIGN CHOICE, unsafe (log 42): where the symbol in course is the insertion's own closing mark, so that R13's
completion is met as well as R12's abort, that mark is sent whole, the abort mark follows it, and the insertion counts as not
completed: the entry stays not inserted and nothing is handed over. -/
def Direction.abortInsert (now : Nat) (d : Direction) : Direction :=
  match d.tx with
  | .sendInsert f done => { d with tx := .sendAbort f done (symbolEnd (f.began done) now + symbolMicros) }
  | .off => d
  | .gap _ => d
  | .sendRepeat _ _ => d
  | .sendAbort _ _ _ => d

/-- The direction inserts, and its repeat buffer holds two frames (R12). -/
def Direction.crowded (d : Direction) : Bool :=
  match d.tx with
  | .sendInsert _ _ => 2 ≤ d.buffer.length
  | .off => false
  | .gap _ => false
  | .sendRepeat _ _ => false
  | .sendAbort _ _ _ => false

/-- An opening mark on the upstream port of a crowded direction aborts its insertion (R12). -/
def State.meetOpening (s : State) (p : Port) : State :=
  s.onDir (ringInto p) fun d => if d.crowded then d.abortInsert s.now else d

/-- A frame placed for repeating: a third finds no place (R10). -/
def Direction.place (d : Direction) (f : Frame) : Direction :=
  if d.buffer.length < 2 then { d with buffer := d.buffer ++ [f] } else d

/-! ### Joining (R17, R18) -/

/-- A start mode of NORMAL or PROFILE_FAULT is settled (R17). -/
def State.mayJoin (s : State) : Bool := s.start.mode == some .normal || s.start.mode == some .profileFault

/-- Each port is DOWN or has a join count of 2, and at least one has (R17). -/
def Loop.joinReady (l : Loop) : Bool :=
  (l.portA.state == .down || l.portA.joinCount == 2) && (l.portB.state == .down || l.portB.joinCount == 2)
  && (l.portA.joinCount == 2 || l.portB.joinCount == 2)

/-- The station becomes ACTIVE (R17): both transmitters enter GAP, and the join state is reported. The first time, the
first round follows at the end of the event (R42). -/
def Ev.becomeActive (e : Ev) : Ev :=
  { ((e.on fun s => { s with loop := { s.loop with
      join := .active
      dirAB := ⟨gapFrom s.now, []⟩
      dirBA := ⟨gapFrom s.now, []⟩
      loneDue := none } }).report (.loopJoin .active)) with
    joined := e.joined || e.s.notices.roundDue.isNone }

/-- Joining is judged (R17). -/
def Ev.judgeJoin (e : Ev) : Ev :=
  if e.s.loop.join = .bypass ∧ e.s.mayJoin = true ∧ e.s.loop.joinReady = true then e.becomeActive else e

/-! ### Port states (R15) -/

/-- A port takes a state, with its LOOP report and its fault flag (R15, R94). -/
def Ev.setPortState (e : Ev) (p : Port) (st : PortState) : Ev :=
  ((e.on fun s => s.onPort p fun r => { r with state := st }).report (.loopPort p st)).setFlags
    fun f => f.setPort p (st == .down)

/-- A gap fill symbol (R15, R17): a DOWN port becomes UP, and in BYPASS it counts toward joining. -/
def Ev.takeGapFill (e : Ev) (p : Port) : Ev :=
  let e := if (e.s.loop.port p).state = .down then e.setPortState p .up else e
  let e := if e.s.loop.join = .bypass then
      e.on fun s => s.onPort p fun r => { r with joinCount := min 2 (r.joinCount + 1) }
    else e
  e.judgeJoin

/-- A port becomes DOWN (R15): its frame in progress and its join count go, and entries that now count as inserted on
both rings leave the transmit queue (R14). -/
def Ev.portDown (e : Ev) (p : Port) : Ev :=
  let e := e.setPortState p .down
  let e := e.on fun s => s.onPort p fun r => { r with frame := none, joinCount := 0 }
  let e := e.on fun s => { s with notices := { s.notices with
    queue := leaveInserted s.loop s.notices.queue } }
  e.judgeJoin

/-! ### Received frames (R7, R8) -/

/-- A good frame by its origin, its hop budget and the join state (R7, R8, Table 1-3). -/
def Ev.takeFrame (e : Ev) (p : Port) (f : Frame) : Ev :=
  if e.s.loop.join = .bypass then e
  else if f.origin.toNat = e.s.start.station then e.takeReturn (ringInto p) f.seq
  else if f.hop = 0 then e
  else
    match e.s.loop.join with
    | .active => (e.offered f (ringInto p)).on fun s => s.onDir (ringInto p) fun d => d.place f
    | .echoTest => e.on fun s => s.onDir (ringInto p) fun d => d.place f
    | .bypass => e
    | .selfTest => e

/-- A symbol received on a port (R3, R12, R15). -/
def Ev.receive (e : Ev) (p : Port) (sym : Symbol) : Ev :=
  let e := e.on fun s => s.restartTimers p sym
  let e := if sym = .opening then e.on fun s => s.meetOpening p else e
  let taken := gather (e.s.loop.port p).frame sym
  let e := e.on fun s => s.onPort p fun r => { r with frame := taken.1 }
  let e := if sym = .gapFill then e.takeGapFill p else e
  match taken.2 with
  | none => e
  | some bytes =>
    match Frame.ofBytes bytes with
    | none => e
    | some f => e.takeFrame p f

/-! ### The internal path of SELF_TEST (R22) -/

/-- The symbol that the receiver of a port hears next from the transmitter joined to it in SELF_TEST (R22): the frame
inserted, mark by mark and byte by byte, its closing mark once the insertion is completed, and gap fill between frames
(log 43). -/
def State.heardNext (s : State) (p : Port) : Option Symbol :=
  match (s.loop.dir (ringInto p)).tx, (s.loop.port p).frame with
  | .sendInsert _ _, none => some .opening
  | .sendInsert f _, some bytes => (f.bytes[bytes.length]?).map .data
  | .gap _, some _ => some .closing
  | .gap _, none => some .gapFill
  | .off, _ => none
  | .sendRepeat _ _, _ => none
  | .sendAbort _ _ _, _ => none

/-- The receiver of a port can hear a symbol: in SELF_TEST only what its own transmitter sends (R22). -/
def State.hears (s : State) (p : Port) (sym : Symbol) : Bool :=
  s.loop.join != .selfTest || s.heardNext p == some sym

/-- A symbol received on a port, as a whole event; one that the receiver cannot hear changes nothing (R22, log 3). -/
def State.receive (s : State) (p : Port) (sym : Symbol) : State :=
  if s.hears p sym then ((Ev.start s).receive p sym).finish else s

/-- In SELF_TEST the receiver joined to a transmitter has heard the frame that the transmitter has sent, up to its closing
mark (R22, log 43). -/
def State.hearOwn (s : State) (ring : Ring) (f : Frame) : State :=
  if s.loop.join = .selfTest then
    s.onPort (upstreamPort ring) fun r => { r with silenceDue := s.now + silenceMicros, frame := some f.bytes }
  else s

/-! ### The commands of the receivers -/

/-- LOOP_SYMBOL_RECEIVED (R3, R15). -/
def execLoopSymbolReceived (port : Port) (sym : Symbol) (s : State) : Host.Outcome State Fault Refusal :=
  next (s.receive port sym)

/-- LOOP_FRAME_RECEIVED (R6 to R8): the closing mark of a frame in progress. -/
def execLoopFrameReceived (port : Port) (s : State) : Host.Outcome State Fault Refusal :=
  if (s.loop.port port).frame.isSome then next (s.receive port .closing) else next s

/-- The symbol that ends a frame early (R3). -/
def abortSymbol : AbortCause → Symbol
  | .abortMark => .abort
  | .gapFill => .gapFill
  | .invalidSymbol => .invalid
  | .excessByte b => .data b

/-- The cause can end a frame of these bytes: an excess byte is the 56th (R3). -/
def abortEnds (c : AbortCause) (frame : Option (List Byte)) : Bool :=
  match frame with
  | none => false
  | some bytes =>
    match c with
    | .excessByte _ => longestFrame ≤ bytes.length
    | .abortMark => true
    | .gapFill => true
    | .invalidSymbol => true

/-- LOOP_FRAME_ABORTED (R3): a frame in progress is ended before its closing mark. -/
def execLoopFrameAborted (port : Port) (cause : AbortCause) (s : State) : Host.Outcome State Fault Refusal :=
  if abortEnds cause (s.loop.port port).frame then next (s.receive port (abortSymbol cause)) else next s

/-- GAP_FILL_RECEIVED (R15, R17). -/
def execGapFillReceived (port : Port) (s : State) : Host.Outcome State Fault Refusal :=
  next (s.receive port .gapFill)

/-- The silence timer of a port can expire (R15). In SELF_TEST the port hears the station's own transmitter, which is never silent
(R22): a timer that runs on from before the entry expires there only where it is due by the moment the first gap fill symbol has been
heard, 10 microseconds after the entry (R2, log 43). -/
def State.canFallSilent (s : State) (p : Port) : Bool :=
  s.loop.join != .selfTest ||
    match (s.loop.dir (ringInto p)).tx with
    | .gap ready => (s.loop.port p).silenceDue + symbolMicros ≤ ready
    | .off => false
    | .sendRepeat _ _ => false
    | .sendInsert _ _ => false
    | .sendAbort _ _ _ => false

/-- SILENCE_TIMER_EXPIRY (R15), in every join state: without effect while the port is DOWN, and where symbols keep the timer from
expiring (R22). -/
def execSilenceTimerExpiry (port : Port) (s : State) : Host.Outcome State Fault Refusal :=
  if (s.loop.port port).state = .down ∨ s.canFallSilent port = false then next s
  else next ((Ev.start (s.elapseTo (s.loop.port port).silenceDue)).portDown port).finish

/-- LONE_START_EXPIRY (R18): taken in BYPASS, once the start mode is settled as NORMAL or PROFILE_FAULT. -/
def execLoneStartExpiry (s : State) : Host.Outcome State Fault Refusal :=
  match s.loop.loneDue with
  | none => next s
  | some due =>
    if s.loop.join = .bypass ∧ s.mayJoin = true then next ((Ev.start (s.elapseTo due)).becomeActive).finish
    else next s

/-! ### The commands of the transmitters -/

/-- REPEAT_START (Table 1-4): GAP with a buffered frame; the oldest is sent with its hop budget lowered (R5). DESIGN CHOICE,
unsafe (log 53): where a frame is placed in the midst of a gap fill symbol, the two of R2 having been sent, the opening mark
begins at the present microsecond and not at the end of that symbol. -/
def execRepeatStart (ring : Ring) (s : State) : Host.Outcome State Fault Refusal :=
  match (s.loop.dir ring).tx.ready, (s.loop.dir ring).buffer with
  | some ready, f :: rest =>
    let s := s.elapseTo ready
    next (s.onDir ring fun _ => ⟨.sendRepeat f.lowered (s.now + f.lowered.micros), rest⟩)
  | _, _ => next s

/-- REPEAT_END (Table 1-4): the closing mark of a repeated frame. -/
def execRepeatEnd (ring : Ring) (s : State) : Host.Outcome State Fault Refusal :=
  match (s.loop.dir ring).tx with
  | .sendRepeat _ done =>
    let s := s.elapseTo done
    next (s.onDir ring fun d => { d with tx := gapFrom s.now })
  | _ => next s

/-- The join states in which insertions begin (R11). -/
def JoinState.inserts : JoinState → Bool
  | .active => true
  | .selfTest => true
  | .bypass => false
  | .echoTest => false

/-- The receiver that hears a ring's transmitter in SELF_TEST has taken the closing mark of the last frame (log 43). -/
def State.pathClear (s : State) (ring : Ring) : Bool :=
  s.loop.join != .selfTest || (s.loop.port (upstreamPort ring)).frame.isNone

/-- The entry that a direction inserts, where R11 holds but for the two gap fill symbols. -/
def State.insertable (s : State) (ring : Ring) : Option TxEntry :=
  if s.loop.join.inserts && (s.loop.dir ring).buffer.isEmpty && s.pathClear ring
      && (s.loop.port (outgoingPort ring)).state == .up then s.notices.nextFor s.loop ring
  else none

/-- INSERTION_START (R11, R5, R27). DESIGN CHOICE, unsafe (log 53): where the conditions come to hold in the midst of a gap fill
symbol, the opening mark begins at the present microsecond and not at the end of that symbol. -/
def execInsertionStart (ring : Ring) (s : State) : Host.Outcome State Fault Refusal :=
  match (s.loop.dir ring).tx.ready, s.insertable ring with
  | some ready, some entry =>
    let s := s.elapseTo ready
    let (ns, seq) := s.notices.assign entry
    let f := entry.notice.frame s.start.station seq
    next ({ s with notices := ns }.onDir ring fun d => { d with tx := .sendInsert f (s.now + f.micros) })
  | _, _ => next s

/-- INSERTION_ABORT (R12): the opening mark of a third frame on the upstream port of a direction that inserts with two
frames buffered (log 25). -/
def execInsertionAbort (ring : Ring) (s : State) : Host.Outcome State Fault Refusal :=
  if (s.loop.dir ring).crowded then next (s.receive (upstreamPort ring) .opening) else next s

/-- A completion is handed to the notice unit: the entry is marked, and the awaiting-return list records it (R13,
R32). -/
def State.complete (s : State) (ring : Ring) (seq : Byte) : State :=
  let ns := s.notices.mark s.loop ring seq
  { s with notices := { ns with awaiting := recordCompletion s.now ring seq ns.awaiting } }

/-- INSERTION_COMPLETE (R13): the closing mark of an inserted frame; in SELF_TEST the frame is then heard on the internal
path (R22). -/
def execInsertionComplete (ring : Ring) (s : State) : Host.Outcome State Fault Refusal :=
  match (s.loop.dir ring).tx with
  | .sendInsert f done =>
    let s := s.elapseTo done
    next (((s.onDir ring fun d => { d with tx := gapFrom s.now }).hearOwn ring f).complete ring f.seq)
  | _ => next s

/-! ### Loop tests (R20 to R23) -/

/-- Modes of LOOP_TEST (Table 10-2). -/
inductive LoopMode where
  | echo
  | self
  | off
deriving DecidableEq, Repr

/-- The mode of a code (Table 10-2). -/
def LoopMode.ofCode (b : Byte) : Option LoopMode :=
  if b = 0 then some .echo else if b = 1 then some .self else if b = 2 then some .off else none

/-- A join state taken by a loop test, with its LOOP report (R20). -/
def Ev.setJoin (e : Ev) (j : JoinState) (f : State → Loop) : Ev :=
  (e.on fun s => { s with loop := { f s with join := j } }).report (.loopJoin j)

/-- ECHO_TEST from ACTIVE (R21): insertions in progress are aborted, repeat buffers stay. -/
def Ev.enterEcho (e : Ev) : Ev :=
  e.setJoin .echoTest fun s => { s.loop with
    dirAB := s.loop.dirAB.abortInsert s.now
    dirBA := s.loop.dirBA.abortInsert s.now }

/-- SELF_TEST (R22, R19): transmissions are cut off, repeat buffers emptied, both transmitters in GAP, frames in
progress discarded. DESIGN CHOICE, unsafe (log 52): each transmitter sends two gap fill symbols, 20 microseconds, before its first
frame here whatever it sent before, as R17 says of becoming ACTIVE; R22 does not say so of a transmitter that was in GAP. -/
def Ev.enterSelf (e : Ev) : Ev :=
  e.setJoin .selfTest fun s => { s.loop with
    dirAB := ⟨gapFrom s.now, []⟩
    dirBA := ⟨gapFrom s.now, []⟩
    portA := { s.loop.portA with frame := none }
    portB := { s.loop.portB with frame := none } }

/-- A port as BYPASS is entered from a test: its state kept, its silence timer restarted, its join count 0 (R23). -/
def PortRec.rejoin (now : Nat) (p : PortRec) : PortRec :=
  { p with
    silenceDue := now + silenceMicros
    joinCount := 0
    frame := none }

/-- BYPASS, from which the station joins as after a reset (R23, R19). -/
def Ev.enterBypass (e : Ev) : Ev :=
  e.setJoin .bypass fun s =>
    { join := .bypass
      portA := s.loop.portA.rejoin s.now
      portB := s.loop.portB.rejoin s.now
      dirAB := ⟨.off, []⟩
      dirBA := ⟨.off, []⟩
      loneDue := some (s.now + loneMicros) }

/-- LOOP_TEST by join state (Table 1-7). -/
def Ev.takeLoopMode (e : Ev) (m : LoopMode) : Ev × Answer :=
  match m, e.s.loop.join with
  | .echo, .bypass => (e, .refused .loopBusy)
  | .echo, .active => (e.enterEcho, .accepted)
  | .echo, .echoTest => (e, .accepted)
  | .echo, .selfTest => (e, .refused .loopBusy)
  | .self, .bypass => (e, .refused .loopBusy)
  | .self, .active => (e.enterSelf, .accepted)
  | .self, .echoTest => (e.enterSelf, .accepted)
  | .self, .selfTest => (e, .accepted)
  | .off, .bypass => (e, .accepted)
  | .off, .active => (e, .accepted)
  | .off, .echoTest => (e.enterBypass, .accepted)
  | .off, .selfTest => (e.enterBypass, .accepted)

/-- LOOP_TEST with a mode as sent (R20, Table 10-2). -/
def Ev.takeLoopTest (e : Ev) (mode : Byte) : Ev × Answer :=
  match LoopMode.ofCode mode with
  | none => (e, .refused .badArgument)
  | some m => e.takeLoopMode m

end Sys2Proof.Machine
end

