-- ==== Sys2Proof/Machine/PanelCode.lean ====
section
/-! DEFINITION. The bytes of the panel line: frames and their check byte (R184), command kinds (Table 10-2), replies
(R187), reports (R188, Table 10-4) and the data of snapshots (R188, R190). Codes that the spec does not state are free
values (log 8); the layout of conditional contents is in log 27. -/
namespace Sys2Proof.Machine

/-! ### Fields (R188) -/

/-- A number in four bytes, high byte first (R188). -/
def wordOf (n : Nat) : List Byte := halfOf (n / 65536) ++ halfOf (n % 65536)

/-- A signed number in two bytes, two's complement (R188). -/
def signedHalf (n : Int) : List Byte := halfBytes (BitVec.ofInt 16 n)

/-- A signed number in four bytes, two's complement (R188). -/
def signedWord (n : Int) : List Byte :=
  let w := BitVec.ofInt 32 n
  halfBytes (w.extractLsb' 16 16) ++ halfBytes (w.extractLsb' 0 16)

/-- An optional field preceded by its presence byte (R188). -/
def presentOr {α : Type} (f : α → List Byte) : Option α → List Byte
  | none => [0]
  | some a => 1 :: f a

/-- A list preceded by its count (log 27). -/
def counted {α : Type} (f : α → List Byte) (l : List α) : List Byte := byteOf l.length :: l.flatMap f

/-- A code that the spec does not state (log 8). -/
def code (t : Config.CodeTable) (n : Nat) : List Byte := [Config.unstatedCode t n]

/-- How many names an enumeration without stated codes has (log 8). -/
def codeNames : Config.CodeTable → Nat
  | .port => 2
  | .joinState => 4
  | .ring => 2
  | .startMode => 3
  | .startCause => 2
  | .faultReason => 8
  | .peerState => 3
  | .lineKind => 4
  | .lineState => 6
  | .isolationEvent => 6
  | .endReason => 4
  | .isolationKind => 2
  | .authorisingKey => 2
  | .lastResult => 4
  | .proofMark => 4
  | .override => 3
  | .lightCurve => 2
  | .callOutcome => 7
  | .dropReason => 3
  | .dispatchState => 3
  | .rejectReason => 5

/-- The code 0 is in use in an enumeration without stated codes. -/
def codesZero (t : Config.CodeTable) : Bool := (List.range (codeNames t)).any fun n => Config.unstatedCode t n == 0

/-- An optional field of such an enumeration (R188): absent, one byte 0; present, its code, after a presence byte where
the code 0 is in use. -/
def optionalCode (t : Config.CodeTable) : Option Nat → List Byte
  | none => [0]
  | some n => if codesZero t then 1 :: code t n else code t n

/-! ### Names of enumerations without stated codes, in the order the rules list them (log 8) -/

/-- Place of a port among its names. -/
def portIndex : Port → Nat
  | .a => 0
  | .b => 1

/-- Place of a ring among its names. -/
def ringIndex : Ring → Nat
  | .ab => 0
  | .ba => 1

/-- Place of a join state among its names. -/
def JoinState.index : JoinState → Nat
  | .bypass => 0
  | .active => 1
  | .echoTest => 2
  | .selfTest => 3

/-- Place of a start mode among its names. -/
def StartMode.index : StartMode → Nat
  | .normal => 0
  | .service => 1
  | .profileFault => 2

/-- Place of a start cause among its names. -/
def StartCause.index : StartCause → Nat
  | .powerOn => 0
  | .resetPin => 1

/-- Place of a fault reason among its names. -/
def FaultReason.index : FaultReason → Nat
  | .noNumber => 0
  | .noMemory => 1
  | .format => 2
  | .length => 3
  | .crc => 4
  | .sections => 5
  | .noStationSection => 6
  | .field => 7

/-- Place of a roster state among its names. -/
def PeerState.index : PeerState → Nat
  | .self => 0
  | .absent => 1
  | .present => 2

/-- Place of a line kind among its names. -/
def LineKind.index : LineKind → Nat
  | .smoke => 0
  | .heat => 1
  | .manual => 2
  | .unused => 3

/-- Place of a line state among its names. -/
def LineState.index : LineState → Nat
  | .normal => 0
  | .preAlarm => 1
  | .alarm => 2
  | .faultOpen => 3
  | .faultShort => 4
  | .unused => 5

/-- Place of an isolation kind, and of its authorising key, among their names. -/
def IsolationKind.index : IsolationKind → Nat
  | .show => 0
  | .service => 1

/-- Place of an isolation event among its names. -/
def IsolationEvent.index : IsolationEvent → Nat
  | .made => 0
  | .replaced => 1
  | .warning => 2
  | .suspended => 3
  | .restored => 4
  | .ended _ => 5

/-- Place of an end reason among its names. -/
def EndReason.index : EndReason → Nat
  | .deisolate => 0
  | .expiry => 1
  | .phase => 2
  | .reset => 3

/-- The end reason of an event, for ENDED alone (R85). -/
def IsolationEvent.reason : IsolationEvent → Option Nat
  | .ended r => some r.index
  | .made => none
  | .replaced => none
  | .warning => none
  | .suspended => none
  | .restored => none

/-- Place of a last result among its names. -/
def LastResult.index : LastResult → Nat
  | .none => 0
  | .completed => 1
  | .stopped => 2
  | .fault => 3

/-- Place of a proof mark among its names. -/
def ProofMark.index : ProofMark → Nat
  | .none => 0
  | .running => 1
  | .passed => 2
  | .failed => 3

/-- Place of an override among its names. -/
def Override.index : Override → Nat
  | .none => 0
  | .active => 1
  | .retained => 2

/-- Place of a curve among its names. -/
def Curve.index : Curve → Nat
  | .linear => 0
  | .square => 1

/-- Place of a call outcome among its names. -/
def CallOutcome.index : CallOutcome → Nat
  | .queued _ _ => 0
  | .done => 1
  | .unanswered => 2
  | .answered _ => 3
  | .cancelled => 4
  | .dropped _ => 5
  | .withdrawn => 6

/-- Place of a drop reason among its names. -/
def DropReason.index : DropReason → Nat
  | .queueFull => 0
  | .displaced => 1
  | .alarm => 2

/-- Place of a dispatch state among its names. -/
def DispatchState.index : DispatchState → Nat
  | .idle => 0
  | .sounding _ _ => 1
  | .interval _ => 2

/-- Place of a reject reason among its names. -/
def RejectReason.index : RejectReason → Nat
  | .check => 0
  | .gap => 1
  | .length => 2
  | .line => 3
  | .busy => 4

/-! ### Parts of several contents -/

/-- The four station fault flags (R94). -/
def FaultFlags.bytes (f : FaultFlags) : List Byte :=
  [flagByte f.portADown, flagByte f.portBDown, flagByte f.loopOpen, flagByte f.curtainFault]

/-- A curtain summary entry with all its fields (R97). -/
def CurtainEntry.bytes (c : CurtainEntry) : List Byte :=
  [byteOf c.curtain, byteOf c.station, c.state.code] ++ halfOf c.position
  ++ [flagByte c.proven, errorCode c.error, flagByte c.present]

/-- A cause, optional: a code 0 is in use, so a presence byte stands before it (R188). -/
def causeBytes (c : Option Cause) : List Byte := presentOr (fun c => [c.code]) c

/-- A pending cue, optional (R160). -/
def pendingBytes (p : Option PendingCue) : List Byte := presentOr (fun p => halfOf p.target ++ halfOf p.time) p

/-- Flags of a call in one byte (R26). -/
def callFlags (ackWanted dropOnAlarm : Bool) : Byte := flagByte ackWanted + (if dropOnAlarm then 2 else 0)

/-! ### Reports (Table 10-4) -/

/-- The kind of a report (Table 10-4). -/
def Report.kindCode : Report → Byte
  | .zone _ _ _ => 129
  | .zoneAck _ _ _ => 129
  | .level _ _ => 130
  | .firstZone _ => 131
  | .phase _ _ _ => 132
  | .curtain _ _ => 133
  | .curtainOwn _ _ _ _ => 133
  | .call _ _ _ => 134
  | .lights _ _ _ _ => 135
  | .isolation _ _ _ _ _ => 136
  | .loopPort _ _ => 137
  | .loopJoin _ => 137
  | .loopIntegrity _ => 137
  | .loopPeerPresent _ _ => 137
  | .loopPeerAbsent _ => 137
  | .loopPeerRestarted _ => 137
  | .stationFlags _ => 138
  | .stationStart _ _ _ _ _ _ => 138
  | .frameReject _ _ _ => 139

/-- What a CALL report carries after its origin (R181). -/
def CallOutcome.bytes : CallOutcome → List Byte
  | .queued refreshed areas => [flagByte refreshed, areaSet areas]
  | .done => []
  | .unanswered => []
  | .answered area => [byteOf area]
  | .cancelled => []
  | .dropped reason => code .dropReason reason.index
  | .withdrawn => []

/-- What a ZONE report carries after the view entry's fields: the house command, its origin and its sequence for zone 0,
or the cause where there is one (R102, log 27). -/
def zoneTail (cause : Option Cause) (command : Option (HouseCommand × Nat × Byte)) : List Byte :=
  match command with
  | some (c, origin, seq) => [c.code, byteOf origin, seq]
  | none => causeBytes cause

/-- The body of a report, its form byte first where it has one (R188). DESIGN CHOICE (log 8): the kind in an ISOLATION report is a
free code, since Table 2-3 lists none; SHOW 0 and SERVICE 1 of Table 10-2 are stated for the command ISOLATE alone. -/
def Report.body : Report → List Byte
  | .zone v cause command =>
    [0, byteOf v.zone, v.state.code, flagByte v.isolated] ++ presentOr (fun e => [e]) v.epoch
    ++ [flagByte v.ownerLost] ++ zoneTail cause command
  | .zoneAck z st ack => [1, byteOf z, st.code, flagByte ack]
  | .level previous new => [byteOf previous, byteOf new]
  | .firstZone head => presentOr (fun z => [byteOf z]) head
  | .phase p seq origin => p.code :: (halfBytes seq ++ [byteOf origin])
  | .curtain c stage => 0 :: (c.bytes ++ presentOr (fun d => [byteOf d]) stage)
  | .curtainOwn c busy last proof =>
    1 :: (c.bytes ++ [flagByte busy] ++ code .lastResult last.index ++ code .proofMark proof.index)
  | .call n outcome origin => byteOf n :: (code .callOutcome outcome.index ++ [byteOf origin] ++ outcome.bytes)
  | .lights c override light pending =>
    byteOf c :: (code .override override.index ++ halfOf light ++ pendingBytes pending)
  | .isolation z event kind minutes inForce =>
    byteOf z :: (code .isolationEvent event.index ++ optionalCode .endReason event.reason
      ++ code .isolationKind kind.index ++ code .authorisingKey kind.index
      ++ presentOr (fun m => [byteOf m]) minutes ++ [flagByte inForce])
  | .loopPort p st => 0 :: (code .port (portIndex p) ++ [st.code])
  | .loopJoin j => 1 :: code .joinState j.index
  | .loopIntegrity i => [2, i.code]
  | .loopPeerPresent n r => 3 :: byteOf n :: code .ring (ringIndex r)
  | .loopPeerAbsent n => [4, byteOf n]
  | .loopPeerRestarted n => [5, byteOf n]
  | .stationFlags f => 0 :: f.bytes
  | .stationStart n mode cause reason format length =>
    1 :: byteOf n :: (code .startMode mode.index ++ code .startCause cause.index
      ++ optionalCode .faultReason (reason.map FaultReason.index) ++ [format] ++ halfBytes length)
  | .frameReject reason kind tag =>
    code .rejectReason reason.index ++ presentOr (fun k => [k]) kind ++ presentOr (fun t => [t]) tag

/-! ### Snapshots (Table 10-5) -/

/-- SNAPSHOT STATION. -/
def StationSummary.bytes (s : StationSummary) : List Byte :=
  byteOf s.station :: (code .startMode s.mode.index
  ++ code .startCause s.cause.index ++ optionalCode .faultReason (s.reason.map FaultReason.index)
  ++ code .joinState s.join.index ++ [s.portA.code, s.portB.code, s.integrity.code] ++ s.flags.bytes
  ++ [byteOf s.level, s.phase.code] ++ halfBytes s.phaseSeq
  ++ [byteOf s.phaseOrigin, byteOf s.waiting, flagByte s.overflow])

/-- The latest presence of a roster entry (R38). -/
def LatestPresence.bytes (p : LatestPresence) : List Byte :=
  [byteOf p.roles.curtain, byteOf p.roles.lines, byteOf p.roles.channels, byteOf p.roles.sounders,
   p.portA.code, p.portB.code, p.integrity.code, byteOf p.level]

/-- SNAPSHOT PEER: state, delivering ring, latest presence. -/
def Peer.bytes (p : Peer) : List Byte :=
  code .peerState p.state.index ++ optionalCode .ring (p.ring.map ringIndex)
  ++ presentOr LatestPresence.bytes p.latest

/-- SNAPSHOT LINE: the line record (R45). -/
def LineRec.bytes (l : LineRec) : List Byte :=
  code .lineKind l.kind.index ++ [byteOf l.zone] ++ presentOr (fun r => [r]) l.reading ++ [byteOf l.run]
  ++ code .lineState l.state.index ++ [flagByte l.latched]

/-- An isolation record with its remaining time in minutes and whether it is in force (R73). DESIGN CHOICE (log 8): its kind is a free
code, as in the ISOLATION report, and not the code of Table 10-2. -/
def IsolationRec.bytes (minutes : Option Nat) (inForce : Bool) (r : IsolationRec) : List Byte :=
  code .isolationKind r.kind.index ++ code .authorisingKey r.kind.index
  ++ presentOr (fun m => [byteOf m]) minutes ++ [flagByte r.warned, flagByte inForce]

/-- SNAPSHOT ZONE: the owned zone record (R53). -/
def ZoneRec.bytes (z : ZoneRec) (alarmed : Nat) (ackLeft investigationLeft minutes : Option Nat) : List Byte :=
  [byteOf z.number, flagByte z.investigable, z.state.code, flagByte z.isolated, z.epoch, byteOf alarmed]
  ++ presentOr halfOf ackLeft ++ presentOr wordOf investigationLeft ++ [flagByte z.acknowledged]
  ++ causeBytes z.firstCause ++ causeBytes z.lastCause
  ++ presentOr (IsolationRec.bytes minutes z.isolated) z.isolation

/-- SNAPSHOT VIEW: the zone view entry (R87). -/
def ViewEntry.bytes (v : ViewEntry) : List Byte :=
  [byteOf v.owner, v.state.code, flagByte v.isolated] ++ presentOr (fun e => [e]) v.epoch
  ++ [flagByte v.epoch.isSome, flagByte v.ownerLost]

/-- The motion status record (R108); the raise time is in milliseconds. -/
def Governor.bytes (g : Governor) : List Byte :=
  [flagByte g.busy] ++ code .lastResult g.lastResult.index ++ [errorCode g.error]
  ++ code .proofMark g.proofMark.index ++ [flagByte g.proven] ++ presentOr halfOf g.descentStart
  ++ wordOf (g.raiseMicros / 1000)

/-- The travel supervisor's record (Table 7-1). -/
def Travel.bytes (t : Travel) : List Byte :=
  presentOr halfBytes t.previous ++ wordOf t.accumulator ++ [flagByte t.known] ++ signedWord t.displacement
  ++ signedHalf t.velocity ++ [byteOf t.stage, byteOf t.overRun, byteOf t.underRun] ++ wordOf t.elapsed
  ++ wordOf t.closure ++ [byteOf t.lateRun, flagByte t.overspeedFound, flagByte t.lateFound,
    byteOf t.raiseOver, byteOf t.raiseUnder]

/-- A fade record (R146). -/
def Fade.bytes (f : Fade) : List Byte :=
  halfOf f.start ++ halfOf f.target ++ halfOf f.total ++ halfOf f.done ++ [flagByte f.held]

/-- SNAPSHOT LIGHT: the channel record with P and the override fade time (R160). -/
def LightChannel.bytes (c : LightChannel) (period overrideTime : Nat) : List Byte :=
  [byteOf c.group] ++ code .lightCurve c.curve.index ++ [flagByte c.safety] ++ halfOf c.floor ++ halfOf c.level
  ++ presentOr Fade.bytes c.fade ++ code .override c.override.index ++ pendingBytes c.pending
  ++ halfOf period ++ [byteOf overrideTime]

/-- One item of an area list (R166). -/
def CallItem.bytes (i : CallItem) : List Byte :=
  [byteOf i.area, byteOf i.remaining, byteOf (i.channel.getD 0)]

/-- A call record (R166). -/
def CallRec.bytes (r : CallRec) : List Byte :=
  [byteOf r.number, byteOf r.origin, byteOf r.pattern, byteOf r.priority, byteOf r.group] ++ halfOf r.interval
  ++ [callFlags r.ackWanted r.dropOnAlarm] ++ halfOf r.stamp ++ counted CallItem.bytes r.items

/-- SNAPSHOT CHANNEL: the dispatch channel (R164). -/
def DispatchChannel.bytes (c : DispatchChannel) (left : Option Nat) : List Byte :=
  [byteOf c.area, flagByte c.evacuation] ++ code .dispatchState c.state.index
  ++ presentOr (fun n => [byteOf n]) c.bound ++ [byteOf c.count] ++ presentOr wordOf left

/-- The data of a snapshot (Table 10-5). -/
def Snapshot.bytes : Snapshot → List Byte
  | .station s => s.bytes
  | .peer p => p.bytes
  | .line l => l.bytes
  | .zone z alarmed a i m => z.bytes alarmed a i m
  | .view v => v.bytes
  | .first zones => counted (fun z => [byteOf z]) zones
  | .curtainOwn g t => g.bytes ++ t.bytes
  | .curtain c => c.bytes
  | .light c period overrideTime => c.bytes period overrideTime
  | .library d => presentOr CallDef.bytes d
  | .queue r => presentOr CallRec.bytes r
  | .channel c left => c.bytes left

/-! ### Frames (R184) and replies (R187) -/

/-- The start byte of a panel frame (Table 10-1). -/
def startByte : Byte := 0xC3

/-- The sum of a run of bytes modulo 256. -/
def sumBytes (bytes : List Byte) : Byte := bytes.foldl (· + ·) 0

/-- A panel frame of a kind, a tag and a body (Table 10-1). -/
def panelFrame (kind tag : Byte) (body : List Byte) : List Byte :=
  let counted := byteOf (body.length + 2) :: kind :: tag :: body
  startByte :: (counted ++ [0 - sumBytes counted])

/-- Codes of the refusal reasons (Table 10-3). -/
def Reason.code : Reason → Byte
  | .badArgument => 1
  | .unknownZone => 2
  | .unknownCall => 3
  | .notOwner => 4
  | .noCurtain => 5
  | .keyRequired => 6
  | .houseLevel => 7
  | .phase => 8
  | .curtainState => 9
  | .statusLatched => 10
  | .dropUnstoppable => 11
  | .tooLate => 12
  | .notProven => 13
  | .queueFull => 14
  | .loopBusy => 15
  | .serviceOnly => 16
  | .zoneState => 17

/-- Outcome and reason bytes of a reply (R187). -/
def Answer.bytes : Answer → List Byte
  | .accepted => [0, 0]
  | .forwarded => [1, 0]
  | .refused r => [2, r.code]

/-- What a reply carries after its three bytes (R190, R195). -/
def ReplyData.coded : ReplyData → List Byte
  | .none => []
  | .snapshot d => d.bytes
  | .bytes a d => halfBytes a ++ d

/-- The frame of a reply (R187). -/
def Reply.frame (r : Reply) : List Byte := panelFrame 128 r.tag (r.kind :: (r.answer.bytes ++ r.data.coded))

/-- The frame of a report (R188). -/
def Report.frame (r : Report) : List Byte := panelFrame r.kindCode 0 r.body

/-- The bytes the transmitter sends (R187). -/
def PanelOut.frame : PanelOut → List Byte
  | .reply r => r.frame
  | .report r => r.frame

end Sys2Proof.Machine
end

