-- ==== Sys2Proof/Machine/Snapshots.lean ====
section
/-! DEFINITION. What SNAPSHOT returns (R190, Table 10-5): one function per topic, each answering the item's contents as
they stand, or the reason of a refusal. -/
namespace Sys2Proof.Machine

/-- The contents of an item within a range, or BAD_ARGUMENT (R190). -/
def inItems (lo hi : Nat) (item : Byte) (get : Nat → Except Reason Snapshot) : Except Reason Snapshot :=
  if lo ≤ item.toNat && item.toNat ≤ hi then get item.toNat else .error .badArgument

/-- A record that exists for every item in range. -/
def entryOf {α : Type} (f : α → Snapshot) : Option α → Except Reason Snapshot
  | none => .error .badArgument
  | some a => .ok (f a)

/-- The station summary (topic STATION). A snapshot is taken only once the start mode is settled (R191). -/
def State.summary (s : State) : StationSummary :=
  { station := s.start.station
    mode := s.start.mode.getD .normal
    cause := s.start.cause
    reason := s.start.faultReason
    join := s.loop.join
    portA := s.loop.portA.state
    portB := s.loop.portB.state
    integrity := s.notices.integrity
    flags := s.house.flags
    level := s.house.level
    phase := s.house.phase
    phaseSeq := s.house.phaseSeq
    phaseOrigin := s.house.phaseOrigin
    waiting := s.panel.reports.length
    overflow := s.panel.overflow }

/-- Topic STATION, item 0. -/
def State.snapStation (s : State) (item : Byte) : Except Reason Snapshot :=
  inItems 0 0 item fun _ => .ok (.station s.summary)

/-- Topic PEER, items 1 to 63. -/
def State.snapPeer (s : State) (item : Byte) : Except Reason Snapshot :=
  inItems 1 63 item fun n => entryOf .peer (s.peer? n)

/-- Topic LINE, items 1 to 32. -/
def State.snapLine (s : State) (item : Byte) : Except Reason Snapshot :=
  inItems 1 32 item fun n => entryOf .line (s.lines.records.find? fun l => l.number == n)

/-- Topic ZONE, items 1 to 48: a zone not owned here is refused with NOT_OWNER. The remaining times of the ack window and
the investigation timer are in milliseconds, rounded up (DESIGN CHOICE, log 45). -/
def State.snapZone (s : State) (item : Byte) : Except Reason Snapshot :=
  inItems 1 48 item fun n =>
    match s.zone? n with
    | none => .error .notOwner
    | some z => .ok (.zone z (s.alarmedCount z) (z.ackDue.map (millisLeft s.now))
        (z.investigationDue.map (millisLeft s.now)) (z.isolation.bind (IsolationRec.minutes s.now)))

/-- Topic VIEW, items 0 to 48. -/
def State.snapView (s : State) (item : Byte) : Except Reason Snapshot :=
  inItems 0 48 item fun n => entryOf .view (s.view? n)

/-- Topic FIRST, item 0. -/
def State.snapFirst (s : State) (item : Byte) : Except Reason Snapshot :=
  inItems 0 0 item fun _ => .ok (.first s.house.firstAlarm)

/-- Topic CURTAIN: item 0 the motion status record and the travel supervisor's, refused with NO_CURTAIN where the
governor has no curtain; items 1 to 4 the summary entries. -/
def State.snapCurtain (s : State) (item : Byte) : Except Reason Snapshot :=
  inItems 0 4 item fun n =>
    if n = 0 then (if s.hasCurtain then .ok (.curtainOwn s.gov s.travel) else .error .noCurtain)
    else entryOf .curtain (s.curtain? n)

/-- Topic LIGHT, items 1 to 12. -/
def State.snapLight (s : State) (item : Byte) : Except Reason Snapshot :=
  inItems 1 12 item fun n =>
    entryOf (fun c => .light c s.start.profile.period s.start.profile.overrideTime) (s.light? n)

/-- Topic LIBRARY, items 1 to 32: the definition at that place in rising order of call number, or none. -/
def State.snapLibrary (s : State) (item : Byte) : Except Reason Snapshot :=
  inItems 1 32 item fun n =>
    .ok (.library ((inOrder (fun a b => decide (a.number ≤ b.number)) s.calls.library)[n - 1]?))

/-- Topic QUEUE: items 1 to 24 the record at that place in rank order, or none; item 25 the evacuation record, or
none. -/
def State.snapQueue (s : State) (item : Byte) : Except Reason Snapshot :=
  inItems 1 25 item fun n => .ok (.queue (if n = 25 then s.calls.evacuation else s.calls.queue[n - 1]?))

/-- The moment the running timer of a dispatch channel is due (Table 9-2). -/
def DispatchState.due : DispatchState → Option Nat
  | .idle => none
  | .sounding _ due => some due
  | .interval due => some due

/-- Topic CHANNEL, items 1 to 8. The running timer is in milliseconds, rounded up (DESIGN CHOICE, log 45). -/
def State.snapChannel (s : State) (item : Byte) : Except Reason Snapshot :=
  inItems 1 8 item fun n =>
    entryOf (fun c => .channel c (c.state.due.map (millisLeft s.now))) (s.sounder? n)

/-- An item of a topic code, or the reason of the refusal; a topic outside 0 to 10 is BAD_ARGUMENT (R190). -/
def State.snapshot (s : State) (topic item : Byte) : Except Reason Snapshot :=
  match topic.toNat with
  | 0 => s.snapStation item
  | 1 => s.snapPeer item
  | 2 => s.snapLine item
  | 3 => s.snapZone item
  | 4 => s.snapView item
  | 5 => s.snapFirst item
  | 6 => s.snapCurtain item
  | 7 => s.snapLight item
  | 8 => s.snapLibrary item
  | 9 => s.snapQueue item
  | 10 => s.snapChannel item
  | _ => .error .badArgument

/-- SNAPSHOT STATION clears the overflow flag when it is accepted (R189, R190). -/
def State.afterSnapshot (s : State) (topic : Byte) : State :=
  if topic = 0 then { s with panel := { s.panel with overflow := false } } else s

end Sys2Proof.Machine
end

