-- ==== Sys2Proof/Machine/Commands.lean ====
section
/-! DEFINITION. The panel commands at their owners: forwarding, the routing of alert actions (R63) and curtain commands
(R109), light commands (R152, R159), call commands (R170 to R172), SNAPSHOT (R190), and the action of any command of
Table 10-2 but the two profile commands. -/
namespace Sys2Proof.Machine

/-- A notice made from a panel command is offered; where the queue takes it the command is applied here and accepted as
forwarded, where the queue refuses it the command is refused with LOOP_BUSY (R30, R31). -/
def Ev.forward (e : Ev) (n : Notice) (applied : Ev → Ev) : Ev × Answer :=
  if e.s.takesNotice n then (applied (e.send n), .forwarded) else (e, .refused .loopBusy)

/-- ACK_ALERT, CONFIRM_ALERT or CANCEL_ALERT (R63). -/
def Ev.panelAlert (e : Ev) (a : AlertAction) (zone : Byte) : Ev × Answer :=
  if !e.s.zoneKnown zone.toNat then (e, .refused .unknownZone)
  else
    match e.s.zone? zone.toNat with
    | some r => e.takeAlert a r
    | none => e.forward (.alertAction zone.toNat a) id

/-- A curtain number is this station's own (R109). -/
def State.ownCurtain (s : State) (n : Nat) : Bool := s.hasCurtain && n == s.gov.curtain

/-- A curtain number is in 1 to 4 (R109). -/
def curtainInRange (b : Byte) : Bool := 1 ≤ b.toNat && b.toNat ≤ 4

/-- CURTAIN_RAISE or CURTAIN_RESUME, routed (R109). -/
def Ev.panelRaise (e : Ev) (take : Ev → Ev × Answer) (curtain : Byte) : Ev × Answer :=
  if !curtainInRange curtain then (e, .refused .badArgument)
  else if e.s.ownCurtain curtain.toNat then e.takeLocalRaise take
  else (e, .refused .noCurtain)

/-- The station knows a station that holds the curtain (R97, R109). -/
def State.knowsCurtain (s : State) (n : Nat) : Bool :=
  match s.curtain? n with
  | none => false
  | some c => c.station != 0

/-- The other five curtain commands, routed (R109). -/
def Ev.panelCurtain (e : Ev) (a : CurtainAction) (curtain : Byte) : Ev × Answer :=
  if !curtainInRange curtain then (e, .refused .badArgument)
  else if e.s.ownCurtain curtain.toNat then e.takeLocal a
  else if !e.s.knowsCurtain curtain.toNat then (e, .refused .noCurtain)
  else if a = .clearStatus && !e.s.engineerTurned then (e, .refused .keyRequired)
  else e.forward (.curtainReq curtain.toNat a) id

/-- LIGHT_CUE, LIGHT_HOLD, LIGHT_RESUME or LIGHT_RETIME (R152). -/
def Ev.panelLight (e : Ev) (a : LightAction) (groups : Half) : Ev × Answer :=
  if groups = 0 then (e, .refused .badArgument)
  else e.forward (.lightCue groups a) fun e => e.on fun s => s.applyLight groups a

/-- LIGHTS_RELEASE (R159). -/
def Ev.panelRelease (e : Ev) : Ev × Answer :=
  if !e.s.managerTurned then (e, .refused .keyRequired)
  else if 4 ≤ e.s.house.level then (e, .refused .houseLevel)
  else (e.lights LightChannel.release, .accepted)

/-- The checks of R170 on a call number, and the definition it names. -/
def State.calledFor (s : State) (call : Byte) : Except Reason CallDef :=
  if 1 ≤ call.toNat && call.toNat ≤ 250 then
    match s.definition? call.toNat with
    | none => .error .unknownCall
    | some d => .ok d
  else .error .badArgument

/-- CALL_START (R170, R171). -/
def Ev.panelCallStart (e : Ev) (call : Byte) : Ev × Answer :=
  match e.s.calledFor call with
  | .error r => (e, .refused r)
  | .ok d =>
    if e.s.calls.wouldRefuse e.s.house.level d then (e, .refused .queueFull)
    else e.forward (.call d) fun e => e.applyCall e.s.start.station d

/-- CALL_CANCEL (R170, R172). -/
def Ev.panelCallCancel (e : Ev) (call : Byte) : Ev × Answer :=
  match e.s.calledFor call with
  | .error r => (e, .refused r)
  | .ok d => e.forward (.callCancel d.number) fun e => e.calls fun level now c => c.finish level now d.number .cancelled

/-- CALL_ACK (R170, R172): an area outside 1 to 8 is BAD_ARGUMENT too. -/
def Ev.panelCallAck (e : Ev) (call area : Byte) : Ev × Answer :=
  if area.toNat < 1 || 8 < area.toNat then (e, .refused .badArgument)
  else
    match e.s.calledFor call with
    | .error r => (e, .refused r)
    | .ok d => e.forward (.callAck d.number area.toNat) fun e =>
        e.calls fun level now c => c.finish level now d.number (.answered area.toNat)

/-- SNAPSHOT (R190). -/
def Ev.panelSnapshot (e : Ev) (topic item : Byte) : Ev × Answer × ReplyData :=
  match e.s.snapshot topic item with
  | .error r => (e, .refused r, .none)
  | .ok d => (e.on fun s => s.afterSnapshot topic, .accepted, .snapshot d)

/-- An answer without data. -/
def plain (r : Ev × Answer) : Ev × Answer × ReplyData := (r.1, r.2, .none)

/-- The action of a command at its owner, with its answer and data. The profile commands are not taken here: they open
an access of their own (R195), and a mode that does not take them refuses them first. -/
def Ev.act (e : Ev) (c : PanelCommand) : Ev × Answer × ReplyData :=
  match c with
  | .setPhase p => plain (e.takeSetPhase p)
  | .alert a z => plain (e.panelAlert a z)
  | .house c => plain (e.takeHouse c)
  | .isolate z k m => plain (e.takeIsolate z k m)
  | .deisolate z => plain (e.takeDeisolate z)
  | .curtainRaise n => plain (e.panelRaise Ev.takeRaise n)
  | .curtainResume n => plain (e.panelRaise Ev.takeResume n)
  | .curtain a n => plain (e.panelCurtain a n)
  | .light a g => plain (e.panelLight a g)
  | .lightsRelease => plain e.panelRelease
  | .callStart n => plain (e.panelCallStart n)
  | .callCancel n => plain (e.panelCallCancel n)
  | .callAck n a => plain (e.panelCallAck n a)
  | .loopTest m => plain (e.takeLoopTest m)
  | .snapshot t i => e.panelSnapshot t i
  | .profileRead _ _ => (e, .refused .serviceOnly, .none)
  | .profileWrite _ _ => (e, .refused .serviceOnly, .none)

end Sys2Proof.Machine
end

