-- ==== Sys2Proof/Machine/PanelLine.lean ====
section
/-! DEFINITION. The panel line (chapter 10): reading a good frame (Table 10-2), taking it (R186), the receive frame
assembler (R185), the transmitter (R187), and the profile accesses (R195). -/
namespace Sys2Proof.Machine

/-! ### Reading a frame (Table 10-2) -/

/-- The curtain action of the kinds 12 to 16. -/
def curtainActionOf (kind : Byte) : Option CurtainAction :=
  if kind = 12 then some .lower else if kind = 13 then some .stop else if kind = 14 then some .drop
  else if kind = 15 then some .proof else if kind = 16 then some .clearStatus else none

/-- A command with a body of one byte. -/
def oneByte (body : List Byte) (f : Byte → PanelCommand) : Parsed :=
  match body with
  | [a] => .command (f a)
  | _ => .badLength

/-- A command with a body of two bytes. -/
def twoBytes (body : List Byte) (f : Byte → Byte → PanelCommand) : Parsed :=
  match body with
  | [a, b] => .command (f a b)
  | _ => .badLength

/-- A command without a body. -/
def noBytes (body : List Byte) (c : PanelCommand) : Parsed :=
  match body with
  | [] => .command c
  | _ => .badLength

/-- ISOLATE with or without minutes. -/
def readIsolate : List Byte → Parsed
  | [z, k] => .command (.isolate z k none)
  | [z, k, h, l] => .command (.isolate z k (some (joinHalf h l)))
  | _ => .badLength

/-- LIGHT_CUE. -/
def readCue : List Byte → Parsed
  | [gh, gl, th, tl, mh, ml] => .command (.light (.cue (joinHalf th tl) (joinHalf mh ml)) (joinHalf gh gl))
  | _ => .badLength

/-- LIGHT_RETIME. -/
def readRetime : List Byte → Parsed
  | [gh, gl, mh, ml] => .command (.light (.retime (joinHalf mh ml)) (joinHalf gh gl))
  | _ => .badLength

/-- PROFILE_READ (R195). -/
def readProfileRead : List Byte → Parsed
  | [h, l, n] => .command (.profileRead (joinHalf h l) n)
  | _ => .badLength

/-- PROFILE_WRITE: an address and 1 to 48 data bytes (R195). -/
def readProfileWrite : List Byte → Parsed
  | h :: l :: data =>
    if 1 ≤ data.length && data.length ≤ 48 then .command (.profileWrite (joinHalf h l) data) else .badLength
  | _ => .badLength

/-- What the checks of R186 make of a kind and a body. -/
def readFrame (kind : Byte) (body : List Byte) : Parsed :=
  match kind.toNat with
  | 1 => oneByte body .setPhase
  | 2 => oneByte body (.alert .ack)
  | 3 => oneByte body (.alert .confirm)
  | 4 => oneByte body (.alert .cancel)
  | 5 => noBytes body (.house .evacuate)
  | 6 => noBytes body (.house .silence)
  | 7 => noBytes body (.house .houseReset)
  | 8 => readIsolate body
  | 9 => oneByte body .deisolate
  | 10 => oneByte body .curtainRaise
  | 11 => oneByte body .curtainResume
  | 12 => oneByte body (.curtain .lower)
  | 13 => oneByte body (.curtain .stop)
  | 14 => oneByte body (.curtain .drop)
  | 15 => oneByte body (.curtain .proof)
  | 16 => oneByte body (.curtain .clearStatus)
  | 17 => readCue body
  | 18 => twoBytes body fun a b => .light .hold (joinHalf a b)
  | 19 => twoBytes body fun a b => .light .resume (joinHalf a b)
  | 20 => readRetime body
  | 21 => noBytes body .lightsRelease
  | 22 => oneByte body .callStart
  | 23 => oneByte body .callCancel
  | 24 => twoBytes body .callAck
  | 25 => oneByte body .loopTest
  | 26 => twoBytes body .snapshot
  | 27 => readProfileRead body
  | 28 => readProfileWrite body
  | _ => .unknownKind

/-- The kind code of a curtain action's command (Table 10-2). -/
def CurtainAction.kindCode : CurtainAction → Byte
  | .lower => 12
  | .stop => 13
  | .drop => 14
  | .proof => 15
  | .clearStatus => 16

/-- The kind code of an alert action's command (Table 10-2). -/
def AlertAction.kindCode : AlertAction → Byte
  | .ack => 2
  | .confirm => 3
  | .cancel => 4

/-- The kind code of a house command (Table 10-2). -/
def HouseCommand.kindCode : HouseCommand → Byte
  | .evacuate => 5
  | .silence => 6
  | .houseReset => 7

/-- The kind code of a light action's command (Table 10-2). -/
def LightAction.kindCode : LightAction → Byte
  | .cue _ _ => 17
  | .hold => 18
  | .resume => 19
  | .retime _ => 20

/-- The kind code of a command (Table 10-2). -/
def PanelCommand.kindCode : PanelCommand → Byte
  | .setPhase _ => 1
  | .alert a _ => a.kindCode
  | .house c => c.kindCode
  | .isolate _ _ _ => 8
  | .deisolate _ => 9
  | .curtainRaise _ => 10
  | .curtainResume _ => 11
  | .curtain a _ => a.kindCode
  | .light a _ => a.kindCode
  | .lightsRelease => 21
  | .callStart _ => 22
  | .callCancel _ => 23
  | .callAck _ _ => 24
  | .loopTest _ => 25
  | .snapshot _ _ => 26
  | .profileRead _ _ => 27
  | .profileWrite _ _ => 28

/-- A command's good frame with a tag. -/
def PanelCommand.frame (tag : Byte) (c : PanelCommand) : GoodFrame := ⟨c.kindCode, tag, .command c⟩

/-! ### Profile accesses (R195) -/

/-- Address plus byte count beyond 4,096, or a byte count outside 1 to 48 (R195). -/
def accessOutside (address : Half) (count : Nat) : Bool :=
  count < 1 || 48 < count || memorySize < address.toNat + count

/-- What becomes of a command: answered in its event, or an access begun whose reply comes at its end. -/
inductive Taken where
  | answered (e : Ev) (answer : Answer) (data : ReplyData)
  | access (a : Access)

/-- A profile command: its checks, and the access it begins (R195). -/
def Ev.openAccess (e : Ev) (address : Half) (count : Nat) (a : Access) : Taken :=
  if accessOutside address count then .answered e (.refused .badArgument) .none
  else if !e.s.memoryAnswers then .answered e (.refused .serviceOnly) .none
  else .access a

/-- A command handed to its owner (R186). -/
def Ev.take (e : Ev) (tag : Byte) (c : PanelCommand) : Taken :=
  match c with
  | .profileRead address count => e.openAccess address count.toNat (.read tag address count)
  | .profileWrite address bytes => e.openAccess address bytes.length (.write tag address bytes)
  | c =>
    let r := e.act c
    .answered r.1 r.2.1 r.2.2

/-! ### Taking a good frame (R186) -/

/-- A reply joins the reply queue (R187). -/
def Ev.reply (e : Ev) (r : Reply) : Ev :=
  e.on fun s => { s with panel := { s.panel with replies := s.panel.replies ++ [r] } }

/-- PROFILE_READ and PROFILE_WRITE (Table 10-2). -/
def isProfileKind (kind : Byte) : Bool := kind == 27 || kind == 28

/-- The checks of R186 in order: the command, or the reason of its refusal. -/
def GoodFrame.checked (mode : Option StartMode) (g : GoodFrame) : Except Reason PanelCommand :=
  match g.parsed with
  | .unknownKind => .error .badArgument
  | p =>
    if mode = some .profileFault ∧ g.kind ≠ 26 then .error .serviceOnly
    else if isProfileKind g.kind ∧ mode ≠ some .service then .error .serviceOnly
    else
      match p with
      | .command c => .ok c
      | .badLength => .error .badArgument
      | .unknownKind => .error .badArgument

/-- A FRAME_REJECT report, as a whole event (R185, R186). -/
def State.reject (s : State) (reason : RejectReason) (kind tag : Option Byte) : State :=
  ((Ev.start s).report (.frameReject reason kind tag)).finish

/-- A command is taken, its reply placed in the reply queue in the same event (R186). -/
def State.runCommand (s : State) (kind tag : Byte) (c : PanelCommand) : State :=
  match (Ev.start s).take tag c with
  | .answered e answer data => (e.reply ⟨tag, kind, answer, data⟩).finish
  | .access a => { s with panel := { s.panel with access := some a } }

/-- A good frame is taken, or rejected with BUSY where the reply queue holds 4 replies (R186). -/
def State.runFrame (s : State) (g : GoodFrame) : State :=
  if 4 ≤ s.panel.replies.length then s.reject .busy (some g.kind) (some g.tag)
  else
    match g.checked s.start.mode with
    | .error reason => ((Ev.start s).reply ⟨g.tag, g.kind, .refused reason, .none⟩).finish
    | .ok c => s.runCommand g.kind g.tag c

/-- A good frame completed: during a profile access the first one waits for its end and a second is rejected (R186,
R195); before the settling none is received (R191). -/
def State.takeFrame (s : State) (g : GoodFrame) : State :=
  if s.panel.assembler = .outOfService then s
  else if s.panel.access.isSome then
    match s.panel.waiting with
    | none => { s with panel := { s.panel with waiting := some g } }
    | some _ => s.reject .busy (some g.kind) (some g.tag)
  else s.runFrame g

/-- A panel command of the opcode table: its good frame is completed (R186, log 26). -/
def State.panelCommand (s : State) (tag : Byte) (c : PanelCommand) : State := s.takeFrame (c.frame tag)

/-! ### The receive frame assembler (R185) -/

/-- The assembler takes a state. -/
def State.setAssembler (s : State) (a : Assembler) : State := { s with panel := { s.panel with assembler := a } }

/-- A frame is rejected: the assembler returns to HUNT, and the FRAME_REJECT report carries what was received. -/
def State.rejectFrame (s : State) (reason : RejectReason) (bytes : List Byte) : State :=
  (s.setAssembler .hunt).reject reason bytes[0]? bytes[1]?

/-- The good frame that m + 1 gathered bytes are: kind, tag, body, and the check byte left off. -/
def goodFrame (bytes : List Byte) : Option GoodFrame :=
  match bytes with
  | kind :: tag :: rest => some ⟨kind, tag, readFrame kind rest.dropLast⟩
  | _ => none

/-- A complete frame: good where its bytes from the length byte on sum to 0 modulo 256, rejected otherwise (R185). -/
def State.completeFrame (s : State) (m : Byte) (bytes : List Byte) : State :=
  if sumBytes (m :: bytes) = 0 then
    match goodFrame bytes with
    | some g => (s.setAssembler .hunt).takeFrame g
    | none => s.setAssembler .hunt
  else s.rejectFrame .check bytes

/-- A byte received on the panel line (R185). -/
def State.receivePanelByte (s : State) (b : Byte) (stopLow : Bool) : State :=
  let due := s.now + panelGapMicros
  match s.panel.assembler with
  | .outOfService => s
  | .hunt => if !stopLow && b == startByte then s.setAssembler (.length due) else s
  | .length _ =>
    if stopLow then s.rejectFrame .line []
    else if 2 ≤ b.toNat && b.toNat ≤ 62 then s.setAssembler (.rest b [] due)
    else s.rejectFrame .length []
  | .rest m bytes _ =>
    if stopLow then s.rejectFrame .line bytes
    else if bytes.length < m.toNat then s.setAssembler (.rest m (bytes ++ [b]) due)
    else s.completeFrame m (bytes ++ [b])

/-- PANEL_BYTE_RECEIVED (R185). -/
def execPanelByteReceived (byte : Byte) (stopLow : Bool) (s : State) : Host.Outcome State Fault Refusal :=
  next (s.receivePanelByte byte stopLow)

/-- PANEL_FRAME_RECEIVED (R186): the byte that completes a frame in REST. -/
def execPanelFrameReceived (last : Byte) (s : State) : Host.Outcome State Fault Refusal :=
  match s.panel.assembler with
  | .rest m bytes _ => if m.toNat ≤ bytes.length then next (s.receivePanelByte last false) else next s
  | .outOfService => next s
  | .hunt => next s
  | .length _ => next s

/-- PANEL_GAP_TIMEOUT (R185). -/
def execPanelGapTimeout (s : State) : Host.Outcome State Fault Refusal :=
  match s.panel.assembler with
  | .length due => next ((s.elapseTo due).rejectFrame .gap [])
  | .rest _ bytes due => next ((s.elapseTo due).rejectFrame .gap bytes)
  | .outOfService => next s
  | .hunt => next s

/-! ### The transmitter (R187) -/

/-- The panel line begins a transmission: the oldest reply, otherwise the oldest report (R187). -/
def Panel.beginTransmit (p : Panel) : Panel :=
  match p.tx with
  | some _ => p
  | none =>
    match p.replies with
    | r :: rest => { p with replies := rest, tx := some (.reply r) }
    | [] =>
      match p.reports with
      | r :: rest => { p with reports := rest, tx := some (.report r) }
      | [] => p

/-- PANEL_TRANSMIT_START (R187). -/
def execPanelTransmitStart (s : State) : Host.Outcome State Fault Refusal :=
  next { s with panel := s.panel.beginTransmit }

/-- PANEL_TRANSMIT_END (R187). -/
def execPanelTransmitEnd (s : State) : Host.Outcome State Fault Refusal :=
  next { s with panel := { s.panel with tx := none } }

/-! ### The end of a profile access (R195) -/

/-- The reply of an access, with the bytes read. -/
def Access.reply (m : List Host.Cell) : Access → Reply
  | .read tag address count =>
    ⟨tag, 27, .accepted, .bytes address (Memory.readAll m address.toNat count.toNat)⟩
  | .write tag _ _ => ⟨tag, 28, .accepted, .none⟩

/-- The memory after an access has been carried out whole. -/
def Access.memory (m : List Host.Cell) : Access → List Host.Cell
  | .read _ _ _ => m
  | .write _ address bytes => Memory.writeAll m address.toNat bytes

/-- An access ends: the memory has taken its bytes, the reply is made, and the frame that waited leaves its place. -/
def State.endAccess (s : State) (a : Access) : State :=
  { s with
    memory := a.memory s.memory
    panel := { s.panel with
      access := none
      waiting := none
      replies := s.panel.replies ++ [a.reply s.memory] } }

/-- PROFILE_ACCESS_END (R195): the reply, and then the good frame that waited is taken. -/
def execProfileAccessEnd (s : State) : Host.Outcome State Fault Refusal :=
  match s.panel.access with
  | none => next s
  | some a =>
    match s.panel.waiting with
    | none => next (s.endAccess a)
    | some g => next ((s.endAccess a).runFrame g)

end Sys2Proof.Machine
end

