-- ==== Sys2Proof/Machine/PanelCommands.lean ====
section
/-! DEFINITION. The panel commands as rows of the opcode table: each is its good frame, completed and taken (R186,
log 26). -/
namespace Sys2Proof.Machine

/-- LOOP_TEST with mode ECHO_TEST (R20, R21). -/
def execLoopTestEcho (tag : Byte) (s : State) : Host.Outcome State Fault Refusal :=
  next (s.panelCommand tag (.loopTest 0))

/-- LOOP_TEST with mode SELF_TEST (R20, R22). -/
def execLoopTestSelf (tag : Byte) (s : State) : Host.Outcome State Fault Refusal :=
  next (s.panelCommand tag (.loopTest 1))

/-- LOOP_TEST with mode OFF (R20, R23). -/
def execLoopTestOff (tag : Byte) (s : State) : Host.Outcome State Fault Refusal :=
  next (s.panelCommand tag (.loopTest 2))

/-- ACK_ALERT (R63, R64). -/
def execAckAlert (tag zone : Byte) (s : State) : Host.Outcome State Fault Refusal :=
  next (s.panelCommand tag (.alert .ack zone))

/-- CONFIRM_ALERT (R63, R65). -/
def execConfirmAlert (tag zone : Byte) (s : State) : Host.Outcome State Fault Refusal :=
  next (s.panelCommand tag (.alert .confirm zone))

/-- CANCEL_ALERT (R63, R66). -/
def execCancelAlert (tag zone : Byte) (s : State) : Host.Outcome State Fault Refusal :=
  next (s.panelCommand tag (.alert .cancel zone))

/-- ISOLATE (R77, R78). -/
def execIsolate (tag zone kind : Byte) (minutes : Option Half) (s : State) : Host.Outcome State Fault Refusal :=
  next (s.panelCommand tag (.isolate zone kind minutes))

/-- DEISOLATE (R79, R80). -/
def execDeisolate (tag zone : Byte) (s : State) : Host.Outcome State Fault Refusal :=
  next (s.panelCommand tag (.deisolate zone))

/-- SET_PHASE (R99, R101). -/
def execSetPhase (tag phase : Byte) (s : State) : Host.Outcome State Fault Refusal :=
  next (s.panelCommand tag (.setPhase phase))

/-- EVACUATE (R92, R93). -/
def execEvacuate (tag : Byte) (s : State) : Host.Outcome State Fault Refusal :=
  next (s.panelCommand tag (.house .evacuate))

/-- SILENCE (R92, R93, R68). -/
def execSilence (tag : Byte) (s : State) : Host.Outcome State Fault Refusal :=
  next (s.panelCommand tag (.house .silence))

/-- HOUSE_RESET (R92, R93, R69). -/
def execHouseReset (tag : Byte) (s : State) : Host.Outcome State Fault Refusal :=
  next (s.panelCommand tag (.house .houseReset))

/-- CURTAIN_RAISE (R109, R110, R113). -/
def execCurtainRaise (tag curtain : Byte) (s : State) : Host.Outcome State Fault Refusal :=
  next (s.panelCommand tag (.curtainRaise curtain))

/-- CURTAIN_RESUME (R109, R110, R114). -/
def execCurtainResume (tag curtain : Byte) (s : State) : Host.Outcome State Fault Refusal :=
  next (s.panelCommand tag (.curtainResume curtain))

/-- CURTAIN_LOWER (R109, R110, R115). -/
def execCurtainLower (tag curtain : Byte) (s : State) : Host.Outcome State Fault Refusal :=
  next (s.panelCommand tag (.curtain .lower curtain))

/-- CURTAIN_STOP (R109, R110, R116). -/
def execCurtainStop (tag curtain : Byte) (s : State) : Host.Outcome State Fault Refusal :=
  next (s.panelCommand tag (.curtain .stop curtain))

/-- CURTAIN_DROP (R109, R110, R117). -/
def execCurtainDrop (tag curtain : Byte) (s : State) : Host.Outcome State Fault Refusal :=
  next (s.panelCommand tag (.curtain .drop curtain))

/-- CURTAIN_PROOF (R109, R110, R118). -/
def execCurtainProof (tag curtain : Byte) (s : State) : Host.Outcome State Fault Refusal :=
  next (s.panelCommand tag (.curtain .proof curtain))

/-- CURTAIN_CLEAR_STATUS (R109, R110, R126). -/
def execCurtainClearStatus (tag curtain : Byte) (s : State) : Host.Outcome State Fault Refusal :=
  next (s.panelCommand tag (.curtain .clearStatus curtain))

/-- LIGHT_CUE (R149, R152). -/
def execLightCue (tag : Byte) (groups target time : Half) (s : State) : Host.Outcome State Fault Refusal :=
  next (s.panelCommand tag (.light (.cue target time) groups))

/-- LIGHT_HOLD (R150, R152). -/
def execLightHold (tag : Byte) (groups : Half) (s : State) : Host.Outcome State Fault Refusal :=
  next (s.panelCommand tag (.light .hold groups))

/-- LIGHT_RESUME (R150, R152). -/
def execLightResume (tag : Byte) (groups : Half) (s : State) : Host.Outcome State Fault Refusal :=
  next (s.panelCommand tag (.light .resume groups))

/-- LIGHT_RETIME (R151, R152). -/
def execLightRetime (tag : Byte) (groups time : Half) (s : State) : Host.Outcome State Fault Refusal :=
  next (s.panelCommand tag (.light (.retime time) groups))

/-- LIGHTS_RELEASE (R159). -/
def execLightsRelease (tag : Byte) (s : State) : Host.Outcome State Fault Refusal :=
  next (s.panelCommand tag .lightsRelease)

/-- CALL_START (R170, R171). -/
def execCallStart (tag call : Byte) (s : State) : Host.Outcome State Fault Refusal :=
  next (s.panelCommand tag (.callStart call))

/-- CALL_CANCEL (R170, R172, R173). -/
def execCallCancel (tag call : Byte) (s : State) : Host.Outcome State Fault Refusal :=
  next (s.panelCommand tag (.callCancel call))

/-- CALL_ACK (R170, R172, R173). -/
def execCallAck (tag call area : Byte) (s : State) : Host.Outcome State Fault Refusal :=
  next (s.panelCommand tag (.callAck call area))

/-- SNAPSHOT of topic STATION (R190). -/
def execSnapshotStation (tag item : Byte) (s : State) : Host.Outcome State Fault Refusal :=
  next (s.panelCommand tag (.snapshot 0 item))

/-- SNAPSHOT of topic PEER (R190). -/
def execSnapshotPeer (tag item : Byte) (s : State) : Host.Outcome State Fault Refusal :=
  next (s.panelCommand tag (.snapshot 1 item))

/-- SNAPSHOT of topic LINE (R190). -/
def execSnapshotLine (tag item : Byte) (s : State) : Host.Outcome State Fault Refusal :=
  next (s.panelCommand tag (.snapshot 2 item))

/-- SNAPSHOT of topic ZONE (R190). -/
def execSnapshotZone (tag item : Byte) (s : State) : Host.Outcome State Fault Refusal :=
  next (s.panelCommand tag (.snapshot 3 item))

/-- SNAPSHOT of topic VIEW (R190). -/
def execSnapshotView (tag item : Byte) (s : State) : Host.Outcome State Fault Refusal :=
  next (s.panelCommand tag (.snapshot 4 item))

/-- SNAPSHOT of topic FIRST (R190). -/
def execSnapshotFirst (tag item : Byte) (s : State) : Host.Outcome State Fault Refusal :=
  next (s.panelCommand tag (.snapshot 5 item))

/-- SNAPSHOT of topic CURTAIN (R190). -/
def execSnapshotCurtain (tag item : Byte) (s : State) : Host.Outcome State Fault Refusal :=
  next (s.panelCommand tag (.snapshot 6 item))

/-- SNAPSHOT of topic LIGHT (R190). -/
def execSnapshotLight (tag item : Byte) (s : State) : Host.Outcome State Fault Refusal :=
  next (s.panelCommand tag (.snapshot 7 item))

/-- SNAPSHOT of topic LIBRARY (R190). -/
def execSnapshotLibrary (tag item : Byte) (s : State) : Host.Outcome State Fault Refusal :=
  next (s.panelCommand tag (.snapshot 8 item))

/-- SNAPSHOT of topic QUEUE (R190). -/
def execSnapshotQueue (tag item : Byte) (s : State) : Host.Outcome State Fault Refusal :=
  next (s.panelCommand tag (.snapshot 9 item))

/-- SNAPSHOT of topic CHANNEL (R190). -/
def execSnapshotChannel (tag item : Byte) (s : State) : Host.Outcome State Fault Refusal :=
  next (s.panelCommand tag (.snapshot 10 item))

/-- PROFILE_READ: its checks, and the access it begins (R195). -/
def execProfileRead (tag : Byte) (address : Half) (count : Byte) (s : State) : Host.Outcome State Fault Refusal :=
  next (s.panelCommand tag (.profileRead address count))

/-- PROFILE_WRITE: its checks, and the access it begins (R195). -/
def execProfileWrite (tag : Byte) (address : Half) (bytes : List Byte) (s : State) : Host.Outcome State Fault Refusal :=
  next (s.panelCommand tag (.profileWrite address bytes))

end Sys2Proof.Machine
end

