-- ==== Sys2Proof/Machine/Profile.lean ====
section
/-! DEFINITION. Reading and validating the profile image (R193, R194), with the clampings and defaults of R54, R132 and
R146, and the definitions that are not taken (R163). -/
namespace Sys2Proof.Machine

/-! ### Image and sections (Table 11-1) -/

/-- The byte of a run at an offset, as a number. -/
def byteAt (b : List Byte) (i : Nat) : Nat := (b[i]?.getD 0).toNat

/-- The two-byte number of a run at an offset (R193). -/
def halfAt (b : List Byte) (i : Nat) : Nat := byteAt b i * 256 + byteAt b (i + 1)

/-- n bytes of a run from an offset. -/
def slice (b : List Byte) (i n : Nat) : List Byte := (b.drop i).take n

/-- The format number of the image (Table 11-1). -/
def imageFormat (m : List Host.Cell) : Byte := Memory.read m 0

/-- The image length of the header (Table 11-1). -/
def imageLength (m : List Host.Cell) : Half := joinHalf (Memory.read m 2) (Memory.read m 3)

/-- The CRC of the header (Table 11-1). -/
def imageCrc (m : List Host.Cell) : Half := joinHalf (Memory.read m 4) (Memory.read m 5)

/-- Every byte of the image after the header. -/
def imageRest (m : List Host.Cell) : List Byte := Memory.readAll m 6 ((imageLength m).toNat - 6)

/-- A section: its number and its field bytes. -/
structure Section where
  number : Nat
  fields : List Byte
deriving DecidableEq, Repr

/-- A count of sections that fill a run of bytes exactly (R193, R194). -/
def readSections : Nat → List Byte → Option (List Section)
  | 0, [] => some []
  | 0, _ :: _ => none
  | k + 1, n :: h :: l :: rest =>
    let len := (joinHalf h l).toNat
    if len ≤ rest.length then (readSections k (rest.drop len)).map (⟨n.toNat, rest.take len⟩ :: ·) else none
  | _ + 1, _ => none

/-- No section number repeats or exceeds 63, and the first section is section 0 (R194). -/
def sectionsStand (l : List Section) : Bool :=
  (l.head?.map Section.number) == some 0 && decide ((l.map Section.number).Nodup)
  && l.all fun s => s.number ≤ 63

/-! ### Codes (Table 11-2) -/

/-- The line kind of a code (Table 11-2). -/
def LineKind.ofCode (n : Nat) : Option LineKind :=
  if n = 0 then some .smoke else if n = 1 then some .heat else if n = 2 then some .manual
  else if n = 3 then some .unused else none

/-- A flag or a two-valued code of the image: 0 or 1 (R193). -/
def bitOf (n : Nat) : Option Bool := if n = 0 then some false else if n = 1 then some true else none

/-- Every element read, or none where one cannot be. -/
def readAllOf {α : Type} (f : Nat → Option α) : List Nat → Option (List α)
  | [] => some []
  | i :: rest => do
    let a ← f i
    let as ← readAllOf f rest
    return a :: as

/-! ### The call library (R163, R194) -/

/-- A definition of the image: none where its flags hold an unknown code. A group above 3 is a free value (log 10). -/
def readDefinition (b : List Byte) (place : Nat) : Option CallDef :=
  let at_ (i : Nat) : Nat := byteAt b (49 + 9 * place + i)
  let group := if at_ 7 ≤ 3 then at_ 7 else Config.unstatedCallGroup place (at_ 7) % 4
  check (at_ 8 ≤ 3)
    { number := at_ 0, pattern := at_ 1, areas := b[49 + 9 * place + 2]?.getD 0, repeats := at_ 3,
      interval := halfAt b (49 + 9 * place + 4), priority := at_ 6, group := group,
      ackWanted := at_ 8 % 2 == 1, dropOnAlarm := 2 ≤ at_ 8 }

/-- The ranges of R163 that a definition must keep to be taken (R194), and a call number of 1 to 250 (log 33). -/
def CallDef.isTaken (d : CallDef) : Bool :=
  1 ≤ d.number && d.number ≤ 250 && d.pattern ≤ 14 && d.areas != 0 && 1 ≤ d.repeats && d.repeats ≤ 255
  && 1 ≤ d.interval && d.interval ≤ 600 && 1 ≤ d.priority && d.priority ≤ 7

/-- The definitions taken, after those whose call numbers have been seen (R163, R194, log 33). -/
def libraryAfter (seen : List Nat) : List CallDef → List CallDef
  | [] => []
  | d :: rest =>
    let later := libraryAfter (d.number :: seen) rest
    if d.isTaken && !seen.contains d.number then d :: later else later

/-- The library of the image's definitions: those out of range are not taken, nor is one whose call number repeats that
of an earlier definition in the image (R163, R194). -/
def library (l : List CallDef) : List CallDef := libraryAfter [] l

/-! ### Clampings and defaults -/

/-- Clamped into a..b (00_scope 5.2). -/
def clamp (a b x : Nat) : Nat := max a (min x b)

/-- A time of R54: 0 selects the default, any other value is clamped. -/
def timeOr (default lo hi x : Nat) : Nat := if x = 0 then default else clamp lo hi x

/-- The supervision parameters, each clamped into its range, then S below L and V_slow at most V_fast (R132). -/
def readParams (u l s vf vs vr dm : Nat) (inverted : Bool) : TravelParams :=
  let length := clamp 2000 25000 l
  let slow := clamp 0 3000 s
  let fast := clamp 100 2000 vf
  { micrometresPerCount := clamp 50 5000 u, length := length,
    slowZone := if slow < length then slow else length - 1, fastLimit := fast,
    slowLimit := min (clamp 50 500 vs) fast, raiseLimit := clamp 50 1000 vr,
    deadline := clamp 10000 60000 dm, inverted := inverted }

/-! ### The two sections (Table 11-2) -/

/-- What the house-wide section gives. -/
structure HouseSection where
  zoneMap : List Nat
  library : List CallDef
  phaseCalls : List Nat
  warningCall : Nat
deriving DecidableEq, Repr

/-- The house-wide section, or none where a check of R194 fails: its length, its definition count, a code, or a zone map
owner above 63. -/
def readHouse (b : List Byte) : Option HouseSection := do
  let q := byteAt b 48
  let defs ← if 49 ≤ b.length && q ≤ 32 && b.length = 56 + 9 * q then
      readAllOf (readDefinition b) (List.range q) else none
  let zoneMap := (slice b 0 48).map BitVec.toNat
  check (zoneMap.all (· ≤ 63))
    { zoneMap := zoneMap, library := library defs, phaseCalls := (slice b (49 + 9 * q) 6).map BitVec.toNat,
      warningCall := byteAt b (55 + 9 * q) }

/-- Line entry n, counted from 0: kind and zone. -/
def readLine (b : List Byte) (n : Nat) : Option (LineKind × Nat) :=
  (LineKind.ofCode (byteAt b (16 + 2 * n))).map fun k => (k, byteAt b (17 + 2 * n))

/-- Light channel entry n, counted from 0, at an offset. A group above 15 is a free value (log 10). -/
def readLight (b : List Byte) (base n : Nat) : Option LightConfig := do
  let i := base + 6 * n
  let listed ← bitOf (byteAt b i)
  let square ← bitOf (byteAt b (i + 2))
  let safety ← bitOf (byteAt b (i + 3))
  let raw := byteAt b (i + 1)
  return { listed := listed, group := if raw ≤ 15 then raw else Config.unstatedGroup (n + 1) raw % 16,
           curve := if square then .square else .linear, safety := safety,
           floor := min 1000 (halfAt b (i + 4)) }

/-- Sounder entry n, counted from 0, at an offset. An area outside 1 to 8 is a free value (log 10). -/
def readSounder (b : List Byte) (base n : Nat) : Option SounderConfig := do
  let i := base + 3 * n
  let listed ← bitOf (byteAt b i)
  let evacuation ← bitOf (byteAt b (i + 2))
  let raw := byteAt b (i + 1)
  return { listed := listed, evacuation := evacuation,
           area := if 1 ≤ raw && raw ≤ 8 then raw else Config.unstatedArea (n + 1) raw % 8 + 1 }

/-- What a station section gives. -/
structure StationSection where
  curtain : Nat
  params : TravelParams
  lines : List (LineKind × Nat)
  investigable : List Nat
  ackWindow : Nat
  investigation : Nat
  lights : List LightConfig
  period : Nat
  overrideTime : Nat
  sounders : List SounderConfig
deriving DecidableEq, Repr

/-- A station section, or none where a check of R194 fails: its length, its investigable zone count, a code, or a
curtain number above 4. -/
def readStation (b : List Byte) : Option StationSection := do
  let v := byteAt b 80
  let inverted ← if 81 ≤ b.length && v ≤ 48 && b.length = 185 + v then bitOf (byteAt b 15) else none
  let lines ← readAllOf (readLine b) (List.range 32)
  let lights ← readAllOf (readLight b (85 + v)) (List.range 12)
  let set ← bitOf (byteAt b (159 + v))
  let sounders ← readAllOf (readSounder b (161 + v)) (List.range 8)
  check (byteAt b 0 ≤ 4)
    { curtain := byteAt b 0,
      params := readParams (halfAt b 1) (halfAt b 3) (halfAt b 5) (halfAt b 7) (halfAt b 9) (halfAt b 11)
        (halfAt b 13) inverted,
      lines := lines, investigable := (slice b 81 v).map BitVec.toNat,
      ackWindow := timeOr 30 10 60 (halfAt b (81 + v)), investigation := timeOr 180 60 300 (halfAt b (83 + v)),
      lights := lights, period := clamp 100 10000 (halfAt b (157 + v)),
      overrideTime := if set then min 50 (byteAt b (160 + v)) else 20, sounders := sounders }

/-- The working copy of the two sections. -/
def profileOf (h : HouseSection) (s : StationSection) : Profile :=
  { zoneMap := h.zoneMap, library := h.library, phaseCalls := h.phaseCalls, warningCall := h.warningCall,
    curtain := s.curtain, params := s.params, lines := s.lines, investigable := s.investigable,
    ackWindow := s.ackWindow, investigation := s.investigation, lights := s.lights, period := s.period,
    overrideTime := s.overrideTime, sounders := s.sounders }

/-! ### Validation (R194) -/

/-- The sections of the image, where they fill it in the section count given and stand (the check SECTIONS). -/
def imageSections (m : List Host.Cell) : Option (List Section) :=
  match readSections (Memory.read m 1).toNat (imageRest m) with
  | none => none
  | some l => if sectionsStand l then some l else none

/-- The FIELD check on the house-wide section and the station section, with the zones the map gives the station. -/
def readFields (station : Nat) (house own : Section) : Except FaultReason Profile :=
  match readHouse house.fields, readStation own.fields with
  | some h, some s =>
    if (h.zoneMap.filter (· == station)).length ≤ 8 then .ok (profileOf h s) else .error .field
  | _, _ => .error .field

/-- The sections of a number among those of the image. -/
def sectionOf (l : List Section) (n : Nat) : Option Section := l.find? fun s => s.number == n

/-- The validation of the image for a station number, its checks in order (R194): the working copy, or the fault
reason. -/
def validate (station : Nat) (answers : Bool) (m : List Host.Cell) : Except FaultReason Profile :=
  if station = 0 then .error .noNumber
  else if !answers then .error .noMemory
  else if imageFormat m ≠ 1 then .error .format
  else if (imageLength m).toNat < 6 || memorySize < (imageLength m).toNat then .error .length
  else if crc16 (imageRest m) ≠ imageCrc m then .error .crc
  else
    match imageSections m with
    | none => .error .sections
    | some l =>
      match sectionOf l 0, sectionOf l station with
      | some house, some own => readFields station house own
      | none, _ => .error .sections
      | some _, none => .error .noStationSection

end Sys2Proof.Machine
end

