-- ==== Sys2Proof/Machine/Start.lean ====
section
/-! DEFINITION. The resets and the start sequence (chapter 11): what the settling of the start mode gives every block
(R192, and R44, R46, R72, R104, R107, R130, R145, R162, R183, R191). -/
namespace Sys2Proof.Machine

/-! ### Resets -/

/-- The memory at a reset: a write in course has taken some of its bytes, how many is a free value (R195, log 9). -/
def State.memoryAtReset (s : State) : List Host.Cell :=
  match s.panel.access with
  | some (.write _ address bytes) =>
    Memory.writeAll s.memory address.toNat (bytes.take (Config.bytesTakenAtReset s.freeCount % (bytes.length + 1)))
  | some (.read _ _ _) => s.memory
  | none => s.memory

/-- A reset of either cause: every block as its chapter gives it, the memory kept (R192, R195). -/
def State.restart (s : State) (cause : StartCause) (downClosed upClosed : Bool) : State :=
  State.afterReset cause downClosed upClosed s.memoryAtReset s.memoryAnswers (s.freeCount + 1) s.pending

/-- POWER_ON_RESET (R192). -/
def execPowerOnReset (downClosed upClosed : Bool) (s : State) : Host.Outcome State Fault Refusal :=
  next (s.restart .powerOn downClosed upClosed)

/-- RESET_PIN (R192). -/
def execResetPin (downClosed upClosed : Bool) (s : State) : Host.Outcome State Fault Refusal :=
  next (s.restart .resetPin downClosed upClosed)

/-! ### What the start mode settles, block by block -/

/-- The start mode (R192). -/
def startMode (serviceLow : Bool) (v : Except FaultReason Profile) : StartMode :=
  if serviceLow then .service
  else
    match v with
    | .ok _ => .normal
    | .error _ => .profileFault

/-- The fault reason the station holds: that of the validation, in PROFILE_FAULT (R192, log 30). -/
def faultReasonOf (serviceLow : Bool) (v : Except FaultReason Profile) : Option FaultReason :=
  match v with
  | .ok _ => none
  | .error r => if serviceLow then none else some r

/-- The working copy: the image's where validation passed (R194, log 7). -/
def workingCopy (v : Except FaultReason Profile) : Profile :=
  match v with
  | .ok p => p
  | .error _ => Profile.reset

/-- A line's kind: UNUSED where its section says so or its zone is not this station's (R46). -/
def lineKind (p : Profile) (station : Nat) (entry : LineKind × Nat) : LineKind :=
  if p.owner entry.2 = station then entry.1 else .unused

/-- A line record at the settling of NORMAL (R46, R72). -/
def settledLine (p : Profile) (station : Nat) (n : Nat) : LineRec :=
  let entry := (p.lines[n - 1]?).getD (.unused, 0)
  let kind := lineKind p station entry
  ⟨n, kind, entry.2, none, 0, if kind = .unused then .unused else .normal, false⟩

/-- An owned zone record at the settling (R72, R54). -/
def settledZone (p : Profile) (z : Nat) : ZoneRec :=
  { number := z, investigable := p.investigable.contains z, state := .quiet, isolated := false, epoch := 0,
    ackDue := none, investigationDue := none, acknowledged := false, firstCause := none, lastCause := none,
    isolation := none }

/-- The zones 1 to 48 that the zone map gives a station, in rising order (R53). -/
def ownedBy (p : Profile) (station : Nat) : List Nat :=
  ((List.range 48).map (· + 1)).filter fun z => p.owner z == station

/-- A view entry at the settling: its owner, and for this station's own zones epoch 0 (R104). -/
def settledView (p : Profile) (mine : Option Nat) (z : Nat) : ViewEntry :=
  let owner := p.owner z
  { zone := z, owner := owner, state := .quiet, isolated := false,
    epoch := if owner ≠ 0 ∧ some owner = mine then some 0 else none, ownerLost := false }

/-- A light channel takes its profile fields; one that is not listed is not in use (R146, R162). -/
def LightChannel.settle (p : Profile) (c : LightChannel) : LightChannel :=
  match p.lights[c.number - 1]? with
  | none => c
  | some l =>
    if l.listed then
      { c with
        inUse := true
        group := l.group
        curve := l.curve
        safety := l.safety
        floor := l.floor }
    else c

/-- A dispatch channel takes its profile fields; one that is not listed is not in use (R164). -/
def DispatchChannel.settle (p : Profile) (c : DispatchChannel) : DispatchChannel :=
  match p.sounders[c.number - 1]? with
  | none => c
  | some l =>
    if l.listed then
      { c with
        inUse := true
        area := l.area
        evacuation := l.evacuation }
    else c

/-- A light channel goes over to the period of the working copy (R153): its counter stands, and its wrap comes by the new
period (log 31). -/
def LightChannel.takePeriod (old new : Nat) (c : LightChannel) : LightChannel :=
  { c with wrapDue := c.wrapDue + new - old }

/-- The roster's entry of this station's own number is SELF, with the station's roles (R38): those the profile gives in
NORMAL, and all zero in PROFILE_FAULT (R43). In SERVICE no curtain, line, channel or sounder is in use, and the model
holds all-zero roles there too, with a valid image or none (DESIGN CHOICE, log 44). -/
def State.settleSelf (s : State) : State :=
  { s with notices := { s.notices with
    roster := update (fun p => p.number == s.start.station)
      (fun p => { p with state := .self, ownRoles := some s.roles }) s.notices.roster } }

/-- What start mode NORMAL gives the line scanner, the zone supervisor, the fade engine and the call dispatcher (R46,
R47, R53, R148, R163). -/
def State.settleNormal (s : State) (p : Profile) : State :=
  { s with
    lines := { records := (List.range 32).map fun i => settledLine p s.start.station (i + 1)
               sampleDue := some (s.now + lineSampleMicros) }
    zones := (ownedBy p s.start.station).map (settledZone p)
    lights := { channels := s.lights.channels.map (LightChannel.settle p)
                tickDue := some (s.now + fadeTickMicros) }
    calls := { s.calls with
      library := p.library
      channels := s.calls.channels.map (DispatchChannel.settle p) }
    gov := { s.gov with curtain := p.curtain } }

/-- The owners of the zone view, where a zone map is taken (R104). -/
def State.settleView (s : State) (p : Profile) (mode : StartMode) : State :=
  { s with house := { s.house with
    view := (List.range 49).map (settledView p (if mode = .normal then some s.start.station else none)) } }

/-- The first state of the governor: DOWN at a down arrival, and DROPPING in every other case, a descent of unknown
start position (R130). -/
def Ev.firstState (e : Ev) : Ev :=
  if e.s.gov.pair = .downArrival then e
  else
    ((e.gov fun g => { g with state := .dropping, descentStart := none }).travel Travel.startDescent).drop

/-- The own curtain summary entry takes the governor's state at start (R104). -/
def State.settleEntry (s : State) : State :=
  { s with house := { s.house with
    curtains := update (fun c => c.curtain == s.gov.curtain)
      (fun c => c.take s.start.station s.ownSummary true) s.house.curtains } }

/-- The curtain at the settling, where the station has one: the first sample, the first state, a disagreement latched,
and the own entry, none of it a change of the curtain (R130, R133, R104). -/
def Ev.settleCurtain (e : Ev) (encoder : Half) : Ev :=
  if e.s.hasCurtain then
    let sampled := (e.s.travel.periodicSample e.s.start.profile.params e.s.gov encoder).1
    let e := e.travel fun _ => { sampled with sampleDue := some (e.s.now + travelSampleMicros) }
    let e := e.firstState
    let e := if e.s.gov.pair = .disagreement then e.latch .limitDisagree else e
    let e := e.on State.settleEntry
    { e with before := e.s.gov }
  else e

/-- The start report (R192). -/
def State.startReport (s : State) (mode : StartMode) : Report :=
  .stationStart s.start.station mode s.start.cause s.start.faultReason
    (if s.memoryAnswers then imageFormat s.memory else 0) (if s.memoryAnswers then imageLength s.memory else 0)

/-- Every block but the curtain as the start mode leaves it. DESIGN CHOICE, unsafe (log 54): in SERVICE with a valid image P, the
override fade time and the parameters of the working copy are taken, and the fields that a channel takes from the profile (group,
curve, safety flag and floor; area and evacuation flag) stay as the reset left them, since no channel is in use (R162, R183,
Table 11-3). So does a line's zone (R45): every line is UNUSED there (R46) and holds zone 0. -/
def State.settled (s : State) (station : Nat) (serviceLow memoryAnswers : Bool) : State :=
  let v := validate station memoryAnswers s.memory
  let mode := startMode serviceLow v
  let p := workingCopy v
  let s := { s with
    start := { s.start with
      mode := some mode
      faultReason := faultReasonOf serviceLow v
      station := station
      profile := p }
    travel := Travel.reset p.params.length
    lights := { s.lights with
      channels := s.lights.channels.map (LightChannel.takePeriod s.start.profile.period p.period) }
    panel := { s.panel with assembler := .hunt }
    memoryAnswers := memoryAnswers }
  let s := s.settleView p mode
  let s := if mode = .normal then s.settleNormal p else s
  s.settleSelf

/-- START_MODE_SETTLED (R192): the straps, the service strap, whether the memory answers, and the encoder's reading. It
is the first of a run; a later one finds the mode settled and changes nothing (log 35). -/
def execStartModeSettled (straps : BitVec 6) (serviceLow memoryAnswers : Bool) (encoder : Half) (s : State) :
    Host.Outcome State Fault Refusal :=
  if s.start.mode.isSome then next s
  else
    let s := s.settled straps.toNat serviceLow memoryAnswers
    let e := (Ev.start s).report (s.startReport ((s.start.mode).getD .normal))
    next ((e.settleCurtain encoder).judgeJoin).finish

end Sys2Proof.Machine
end

