-- ==== Sys2Proof/Machine/Dispatch.lean ====
section
/-! DEFINITION. The meaning of each command, one arm per row of the opcode table. -/
namespace Sys2Proof.Machine

/-- A command's effect on everything but the queue of commands. -/
def exec (i : Instr) (s : State) : Host.Outcome State Fault Refusal :=
  match i with
  | .powerOnReset down up => Sys2Proof.Machine.execPowerOnReset down up s
  | .resetPin down up => Sys2Proof.Machine.execResetPin down up s
  | .startModeSettled straps low mem encoder => Sys2Proof.Machine.execStartModeSettled straps low mem encoder s
  | .loopFrameReceived port => Sys2Proof.Machine.execLoopFrameReceived port s
  | .loopFrameAborted port cause => Sys2Proof.Machine.execLoopFrameAborted port cause s
  | .gapFillReceived port => Sys2Proof.Machine.execGapFillReceived port s
  | .silenceTimerExpiry port => Sys2Proof.Machine.execSilenceTimerExpiry port s
  | .loneStartExpiry => Sys2Proof.Machine.execLoneStartExpiry s
  | .repeatStart ring => Sys2Proof.Machine.execRepeatStart ring s
  | .repeatEnd ring => Sys2Proof.Machine.execRepeatEnd ring s
  | .insertionStart ring => Sys2Proof.Machine.execInsertionStart ring s
  | .insertionAbort ring => Sys2Proof.Machine.execInsertionAbort ring s
  | .insertionComplete ring => Sys2Proof.Machine.execInsertionComplete ring s
  | .loopTestEcho tag => Sys2Proof.Machine.execLoopTestEcho tag s
  | .loopTestSelf tag => Sys2Proof.Machine.execLoopTestSelf tag s
  | .loopTestOff tag => Sys2Proof.Machine.execLoopTestOff tag s
  | .returnLimitExpiry seq => Sys2Proof.Machine.execReturnLimitExpiry seq s
  | .absenceTimerExpiry station => Sys2Proof.Machine.execAbsenceTimerExpiry station s
  | .presenceRound => Sys2Proof.Machine.execPresenceRound s
  | .lineSample readings => Sys2Proof.Machine.execLineSample readings s
  | .ackWindowExpiry zone => Sys2Proof.Machine.execAckWindowExpiry zone s
  | .investigationExpiry zone => Sys2Proof.Machine.execInvestigationExpiry zone s
  | .ackAlert tag zone => Sys2Proof.Machine.execAckAlert tag zone s
  | .confirmAlert tag zone => Sys2Proof.Machine.execConfirmAlert tag zone s
  | .cancelAlert tag zone => Sys2Proof.Machine.execCancelAlert tag zone s
  | .managerKeyChange pos => Sys2Proof.Machine.execManagerKeyChange pos s
  | .engineerKeyChange pos => Sys2Proof.Machine.execEngineerKeyChange pos s
  | .isolate tag zone kind minutes => Sys2Proof.Machine.execIsolate tag zone kind minutes s
  | .deisolate tag zone => Sys2Proof.Machine.execDeisolate tag zone s
  | .isolationWarning zone => Sys2Proof.Machine.execIsolationWarning zone s
  | .isolationExpiry zone => Sys2Proof.Machine.execIsolationExpiry zone s
  | .setPhase tag phase => Sys2Proof.Machine.execSetPhase tag phase s
  | .evacuate tag => Sys2Proof.Machine.execEvacuate tag s
  | .silence tag => Sys2Proof.Machine.execSilence tag s
  | .houseReset tag => Sys2Proof.Machine.execHouseReset tag s
  | .curtainRaise tag curtain => Sys2Proof.Machine.execCurtainRaise tag curtain s
  | .curtainResume tag curtain => Sys2Proof.Machine.execCurtainResume tag curtain s
  | .curtainLower tag curtain => Sys2Proof.Machine.execCurtainLower tag curtain s
  | .curtainStop tag curtain => Sys2Proof.Machine.execCurtainStop tag curtain s
  | .curtainDrop tag curtain => Sys2Proof.Machine.execCurtainDrop tag curtain s
  | .curtainProof tag curtain => Sys2Proof.Machine.execCurtainProof tag curtain s
  | .curtainClearStatus tag curtain => Sys2Proof.Machine.execCurtainClearStatus tag curtain s
  | .limitEvent switch closed encoder => Sys2Proof.Machine.execLimitEvent switch closed encoder s
  | .raiseKeyChange pressed => Sys2Proof.Machine.execRaiseKeyChange pressed s
  | .raiseTimeout => Sys2Proof.Machine.execRaiseTimeout s
  | .travelSample encoder => Sys2Proof.Machine.execTravelSample encoder s
  | .fadeTick => Sys2Proof.Machine.execFadeTick s
  | .periodWrap channel => Sys2Proof.Machine.execPeriodWrap channel s
  | .periodCompareMatch channel => Sys2Proof.Machine.execPeriodCompareMatch channel s
  | .lightCue tag groups target time => Sys2Proof.Machine.execLightCue tag groups target time s
  | .lightHold tag groups => Sys2Proof.Machine.execLightHold tag groups s
  | .lightResume tag groups => Sys2Proof.Machine.execLightResume tag groups s
  | .lightRetime tag groups time => Sys2Proof.Machine.execLightRetime tag groups time s
  | .lightsRelease tag => Sys2Proof.Machine.execLightsRelease tag s
  | .callStart tag call => Sys2Proof.Machine.execCallStart tag call s
  | .callCancel tag call => Sys2Proof.Machine.execCallCancel tag call s
  | .callAck tag call area => Sys2Proof.Machine.execCallAck tag call area s
  | .chimeEnd channel => Sys2Proof.Machine.execChimeEnd channel s
  | .intervalEnd channel => Sys2Proof.Machine.execIntervalEnd channel s
  | .panelFrameReceived last => Sys2Proof.Machine.execPanelFrameReceived last s
  | .panelGapTimeout => Sys2Proof.Machine.execPanelGapTimeout s
  | .panelTransmitStart => Sys2Proof.Machine.execPanelTransmitStart s
  | .panelTransmitEnd => Sys2Proof.Machine.execPanelTransmitEnd s
  | .snapshotStation tag item => Sys2Proof.Machine.execSnapshotStation tag item s
  | .snapshotPeer tag item => Sys2Proof.Machine.execSnapshotPeer tag item s
  | .snapshotLine tag item => Sys2Proof.Machine.execSnapshotLine tag item s
  | .snapshotZone tag item => Sys2Proof.Machine.execSnapshotZone tag item s
  | .snapshotView tag item => Sys2Proof.Machine.execSnapshotView tag item s
  | .snapshotFirst tag item => Sys2Proof.Machine.execSnapshotFirst tag item s
  | .snapshotCurtain tag item => Sys2Proof.Machine.execSnapshotCurtain tag item s
  | .snapshotLight tag item => Sys2Proof.Machine.execSnapshotLight tag item s
  | .snapshotLibrary tag item => Sys2Proof.Machine.execSnapshotLibrary tag item s
  | .snapshotQueue tag item => Sys2Proof.Machine.execSnapshotQueue tag item s
  | .snapshotChannel tag item => Sys2Proof.Machine.execSnapshotChannel tag item s
  | .profileRead tag address count => Sys2Proof.Machine.execProfileRead tag address count s
  | .profileWrite tag address bytes => Sys2Proof.Machine.execProfileWrite tag address bytes s
  | .profileAccessEnd => Sys2Proof.Machine.execProfileAccessEnd s
  | .loopSymbolReceived port symbol => Sys2Proof.Machine.execLoopSymbolReceived port symbol s
  | .panelByteReceived byte stopLow => Sys2Proof.Machine.execPanelByteReceived byte stopLow s

end Sys2Proof.Machine
end

