-- ==== Sys2Proof/Machine/Step.lean ====
section
/-! DEFINITION. One step of the block: the command at the front of its queue, or, where none waits, one microsecond of
time (log 1). -/
namespace Sys2Proof.Machine

/-- The state with another queue of commands. -/
def State.withPending (s : State) (pending : List Instr) : State := { s with pending := pending }

/-- One step: the front command runs on the queue's rest; on an empty queue one microsecond passes (log 1). -/
def step (s : State) : Host.Outcome State Fault Refusal :=
  match s.pending with
  | [] => next (s.elapse 1)
  | c :: rest => exec c (s.withPending rest)

/-- The state with the command a table word spells at the front of its queue; no word spells one, since the table gives
no bits (Sys2Proof/Decode.lean). -/
def State.withFetchWord (s : State) (nbits w : Nat) : State :=
  match decodeTableWord nbits w with
  | none => s
  | some c => s.withPending (c :: s.pending)

end Sys2Proof.Machine
end

