-- ==== Sys2Proof/Safety.lean ====
section
/-! DEFINITION. What every step keeps: the laws of the station's state that the rules give, each over one block. And the
words that statements about single commands use: when a panel command is taken at once, when a state is quiet, and what the
end of an event may change. -/
namespace Sys2Proof.Machine

/-! ### Laws of the state -/

/-- The house level is the one the view and the fault flags give (R95), and no more than 5. -/
def State.LevelLaw (s : State) : Prop := s.house.level = s.house.computedLevel ∧ s.house.level ≤ 5

/-- The station fault flags stand with what they tell of (R94): the port states (R15), loop integrity (R35) and the
latched error (R125). -/
def State.FlagsLaw (s : State) : Prop :=
  s.house.flags.portADown = (s.loop.portA.state == .down)
  ∧ s.house.flags.portBDown = (s.loop.portB.state == .down)
  ∧ s.house.flags.loopOpen = (s.notices.integrity == .broken)
  ∧ s.house.flags.curtainFault = s.gov.error.isSome

/-- What the house level allows the curtain (R123, R107): at level 4 or above it is down, dropping or stuck; at level 3 it
is not raised; a station without a curtain holds it DOWN. Before the settling there is no curtain. -/
def State.CurtainLaw (s : State) : Prop :=
  (4 ≤ s.house.level → s.gov.state = .down ∨ s.gov.state = .dropping ∨ s.gov.state = .stuck)
  ∧ (3 ≤ s.house.level → s.gov.state ≠ .raising)
  ∧ (s.gov.curtain = 0 → s.gov.state = .down)
  ∧ (s.start.mode = none → s.gov.curtain = 0)

/-- The supervisor's record stands with the curtain state (R132, R137): the damper stage is 0 to 3, and 0 outside the
descending states; the position lies within the travel. -/
def State.StageLaw (s : State) : Prop :=
  s.travel.stage ≤ 3
  ∧ (s.gov.state.isDescending = false → s.travel.stage = 0)
  ∧ s.travel.accumulator ≤ s.start.profile.params.length * 1000

/-- What the house level does to a light channel (R157, R158): from level 4 on a safety channel in use is overridden and
stands at 1000 or fades to it; below level 4 no channel is. -/
def LightChannel.obeys (level : Nat) (c : LightChannel) : Prop :=
  (c.override = .active → c.inUse = true ∧ c.safety = true ∧ 4 ≤ level)
  ∧ (4 ≤ level → c.inUse = true → c.safety = true →
      c.override = .active ∧ (c.fade.map Fade.target).getD c.level = 1000)

/-- Every light channel obeys the house level; before the settling none is in use. -/
def State.LightLaw (s : State) : Prop :=
  ∀ c ∈ s.lights.channels,
    c.obeys s.house.level ∧ (s.start.mode = none → c.inUse = false ∧ c.override = .none)

/-- An owned zone's timers and isolated attribute (R53, R61, R64, R73, R75): the ack window timer runs in ALERT until the
zone is acknowledged, the investigation timer from then on, and neither outside ALERT; the isolated attribute is clear
where no isolation is held, and set while one is held and the engineer key is not in SUSPEND. (With the key in SUSPEND it
is clear too, but for a record made before the key's first position was read, log 17.) -/
def ZoneRec.obeys (suspended : Bool) (z : ZoneRec) : Prop :=
  (if z.state = .alert then
      z.ackDue.isSome = !z.acknowledged ∧ z.investigationDue.isSome = z.acknowledged
    else z.ackDue = none ∧ z.investigationDue = none)
  ∧ (z.isolation = none → z.isolated = false)
  ∧ (z.isolation.isSome = true → suspended = false → z.isolated = true)

/-- Every owned zone obeys its law, and each is held once. -/
def State.ZoneLaw (s : State) : Prop :=
  (s.zones.map ZoneRec.number).Nodup ∧ ∀ z ∈ s.zones, z.obeys s.suspended

/-- A latched line is in ALARM (R50); an UNUSED line has the state UNUSED and no other line has it (R46). -/
def State.LatchLaw (s : State) : Prop :=
  ∀ l ∈ s.lines.records,
    (l.latched = true → l.state = .alarm) ∧ (l.kind = .unused ↔ l.state = .unused) ∧ l.run ≤ 3

/-- The transmit queue (R29, R14): its entries stand in the order of R29, each with an age stamp of its own below the next;
there is at most one PRESENCE, and at most one ZONE_STATE of a zone, since no two entries merge; and no entry counts as inserted
on both rings. -/
def State.QueueLaw (s : State) : Prop :=
  (s.notices.queue.Pairwise fun a b => a.inFront b = true)
  ∧ (s.notices.queue.map TxEntry.age).Nodup ∧ (∀ e ∈ s.notices.queue, e.age < s.notices.nextAge)
  ∧ (s.notices.queue.Pairwise fun a b => a.notice.mergesWith b.notice = false)
  ∧ (∀ e ∈ s.notices.queue, ¬(e.countsOn s.loop .ab = true ∧ e.countsOn s.loop .ba = true))

/-- A transmitter's insertion is of a frame whose body is no longer than Table 1-1 allows. -/
def Transmitter.fits : Transmitter → Prop
  | .sendInsert f _ => f.body.length ≤ 48
  | _ => True

/-- What each store may hold: transmit queue and awaiting-return list 16 (R29, R32), repeat buffers 2 (R10), frames in
progress 55 bytes (R3) with bodies of at most 48 bytes queued and sent (Table 1-1), owned zones 8 (R53), the view's 49
zones and the four curtains in rising order (R87, R97), the first-alarm order with each zone at most once (R96), reports 32 (R189), call records 24 (R166), call definitions 32
(R163). -/
def State.StoreLaw (s : State) : Prop :=
  s.notices.queue.length ≤ 16 ∧ s.notices.awaiting.length ≤ 16
  ∧ (∀ e ∈ s.notices.queue, e.notice.body.length ≤ 48) ∧ s.loop.dirAB.tx.fits ∧ s.loop.dirBA.tx.fits
  ∧ s.zones.length ≤ 8
  ∧ s.house.view.map ViewEntry.zone = List.range 49
  ∧ s.house.curtains.map CurtainEntry.curtain = [1, 2, 3, 4]
  ∧ s.house.firstAlarm.Nodup ∧ (∀ z ∈ s.house.firstAlarm, z ≤ 48) ∧ s.house.firstAlarm.length ≤ 49
  ∧ s.calls.library.length ≤ 32
  ∧ s.loop.dirAB.buffer.length ≤ 2 ∧ s.loop.dirBA.buffer.length ≤ 2
  ∧ (∀ bytes, s.loop.portA.frame = some bytes → bytes.length ≤ longestFrame)
  ∧ (∀ bytes, s.loop.portB.frame = some bytes → bytes.length ≤ longestFrame)
  ∧ s.panel.reports.length ≤ 32
  ∧ s.calls.queue.length ≤ 24
  ∧ (∀ r ∈ s.calls.queue, 1 ≤ r.number ∧ r.number ≤ 250)
  ∧ (∀ d ∈ s.calls.library, 1 ≤ d.number ∧ d.number ≤ 250)

/-- The reply queue holds at most 4 replies, with room for the one an access in course will make, and a frame waits only
behind an access (R186, R187, R195). -/
def State.ReplyLaw (s : State) : Prop :=
  s.panel.replies.length ≤ 4
  ∧ (s.panel.access.isSome = true → s.panel.replies.length ≤ 3)
  ∧ (s.panel.waiting.isSome = true → s.panel.access.isSome = true)

/-- An access lies within the memory (R195). -/
def Access.inside : Access → Prop
  | .read _ address count => address.toNat + count.toNat ≤ memorySize
  | .write _ address bytes => address.toNat + bytes.length ≤ memorySize

/-- The configuration memory has its canonical form, and an access in course lies within it (R195). -/
def State.MemoryLaw (s : State) : Prop :=
  Memory.wf s.memory = true ∧ ∀ a, s.panel.access = some a → a.inside

/-- A roster entry (R38, R39): an ABSENT one holds no last accepted sequence and no running absence timer, a PRESENT one
holds both. -/
def Peer.obeys (p : Peer) : Prop :=
  (p.state = .absent → p.lastSeq = none ∧ p.absenceDue = none)
  ∧ (p.state = .present → p.lastSeq.isSome = true ∧ p.absenceDue.isSome = true)

/-- The roster keeps its 63 entries in rising order, each obeying its law. -/
def State.RosterLaw (s : State) : Prop :=
  s.notices.roster.map Peer.number = (List.range 63).map (· + 1) ∧ ∀ p ∈ s.notices.roster, p.obeys

/-- BYPASS, the lone-start timer and the transmitters (R9, R16, R18, R23): in BYPASS the lone-start timer runs, both
transmitters are OFF and both repeat buffers empty; outside it the timer is stopped and no transmitter is OFF. In SELF_TEST
(R19, R22) both repeat buffers are empty and neither transmitter repeats or sends an abort mark. -/
def Loop.JoinLaw (l : Loop) : Prop :=
  (if l.join = .bypass then
    l.loneDue.isSome = true ∧ l.dirAB = ⟨.off, []⟩ ∧ l.dirBA = ⟨.off, []⟩
  else l.loneDue = none ∧ l.dirAB.tx ≠ .off ∧ l.dirBA.tx ≠ .off)
  ∧ (l.join = .selfTest → ∀ r, (l.dir r).buffer = []
      ∧ ((∃ ready, (l.dir r).tx = .gap ready) ∨ ∃ f done, (l.dir r).tx = .sendInsert f done))

/-- An entry of the zone view tells what the owned zone's record holds (R88). -/
def ViewEntry.tells (z : ZoneRec) (v : ViewEntry) : Prop :=
  v.state = z.state ∧ v.isolated = z.isolated ∧ v.epoch = some z.epoch

/-- The zone view agrees with the zone supervisor on every owned zone (R88), whose owner it names; the roster entry of the
station's own number is SELF (R38). Before the settling no zone is owned. -/
def State.ViewLaw (s : State) : Prop :=
  (s.zones.map ZoneRec.number).Nodup
  ∧ (s.start.mode = none → s.zones = [])
  ∧ (∀ z ∈ s.zones, 1 ≤ z.number ∧ ∀ v ∈ s.house.view, v.zone = z.number →
      v.owner = s.start.station ∧ v.tells z)
  ∧ (s.zones ≠ [] → ∀ p ∈ s.notices.roster, p.number = s.start.station → p.state = .self)

/-- The own curtain summary entry tells what the governor and the supervisor hold (R97, R128). -/
def State.OwnEntryLaw (s : State) : Prop :=
  s.hasCurtain = true → ∀ c, s.curtain? s.gov.curtain = some c → c = c.take s.start.station s.ownSummary true

/-- A light channel's numbers (R146, R148): level, floor, fade starts, fade targets and pending targets lie in 0 to 1000, and while a
fade runs the level lies between its start and its target. -/
def LightChannel.inBounds (c : LightChannel) : Prop :=
  c.level ≤ 1000 ∧ c.floor ≤ 1000
  ∧ (∀ f, c.fade = some f → f.start ≤ 1000 ∧ f.target ≤ 1000
      ∧ (f.start ≤ c.level ∧ c.level ≤ f.target ∨ f.target ≤ c.level ∧ c.level ≤ f.start))
  ∧ (∀ p, c.pending = some p → p.target ≤ 1000)

/-- Every light channel's numbers are in bounds. -/
def State.FadeLaw (s : State) : Prop := ∀ c ∈ s.lights.channels, c.inBounds

/-- All call records held: the evacuation record, where there is one, and those of the queue (R166). -/
def Calls.records (c : Calls) : List CallRec := c.evacuation.toList ++ c.queue

/-- What is bound to what (R164, R166): the eight channels stand in rising order and each call number once, call 0 outside the
queue alone; an area stands once in a record; a channel that is not IDLE is bound to a record's item of its area, which
names it, and an item that names a channel is the one that channel is bound to. -/
def Calls.Bound (c : Calls) : Prop :=
  c.channels.map DispatchChannel.number = (List.range 8).map (· + 1)
  ∧ (c.queue.map CallRec.number).Nodup ∧ (∀ r ∈ c.queue, 1 ≤ r.number)
  ∧ (∀ r, c.evacuation = some r → r.number = 0)
  ∧ (∀ r ∈ c.records, (r.items.map CallItem.area).Nodup)
  ∧ (∀ d ∈ c.channels, (d.bound = none ↔ d.state = .idle)
      ∧ ∀ n, d.bound = some n → d.inUse = true
          ∧ ∃ r ∈ c.records, r.number = n ∧ ∃ i ∈ r.items, i.area = d.area ∧ i.channel = some d.number)
  ∧ (∀ r ∈ c.records, ∀ i ∈ r.items, ∀ k, i.channel = some k →
      ∃ d ∈ c.channels, d.number = k ∧ d.area = i.area ∧ d.bound = some r.number)

/-- The call queue stands in rank order, highest first, and every record has an arrival stamp of its own, below the next
(R166). -/
def Calls.Ranked (c : Calls) : Prop :=
  (c.queue.Pairwise fun a b => a.outranks b = true)
  ∧ (c.records.map CallRec.stamp).Nodup ∧ ∀ r ∈ c.records, r.stamp < c.nextStamp

/-- What the house level allows the dispatcher (R174, R178, R180): a call other than call 0 is bound to a channel only while its
priority exceeds the level, and the evacuation record exists exactly at level 5. -/
def Calls.obeys (level : Nat) (c : Calls) : Prop :=
  (∀ d ∈ c.channels, ∀ n, d.bound = some n → n ≠ 0 → ∃ r ∈ c.queue, r.number = n ∧ level < r.priority)
  ∧ (c.evacuation.isSome = true ↔ level = 5)

/-- The dispatcher's bindings and its rank order stand, as the house level allows; no definition of the library is of call 0
(R163), and before the settling no channel is in use. -/
def State.CallLaw (s : State) : Prop :=
  s.calls.Bound ∧ s.calls.Ranked ∧ s.calls.obeys s.house.level ∧ (∀ d ∈ s.calls.library, 1 ≤ d.number)
  ∧ (s.start.mode = none → ∀ d ∈ s.calls.channels, d.inUse = false)

/-! ### The words of statements about commands -/

/-- A panel frame completed now is taken at once (R186, R191, R195): the panel line is in service, no profile access is in
course, and the reply queue has room; the mode is not PROFILE_FAULT. -/
def State.Ready (s : State) : Prop :=
  s.panel.assembler ≠ .outOfService ∧ s.panel.access = none ∧ s.panel.replies.length < 4
  ∧ s.start.mode ≠ some .profileFault

/-- Nothing waits to be told: the level and the own curtain entry are as the state gives them. The end of every event
leaves the state so. -/
def State.Quiet (s : State) : Prop := s.LevelLaw ∧ s.OwnEntryLaw

/-- Reports join the buffer (R189). -/
def State.reporting (s : State) (made : List Report) : State :=
  { s with panel := s.panel.addReports made }

/-- A reply joins the reply queue (R187). -/
def State.replying (s : State) (tag kind : Byte) (answer : Answer) (data : ReplyData) : State :=
  { s with panel := { s.panel with replies := s.panel.replies ++ [⟨tag, kind, answer, data⟩] } }

/-- A state, but for the parts that the end of an event may change (R42, R95, R128, R129, R189), which are another
state's: the curtain table and the house level; governor, supervisor, light channels and call records, which take a new
level; the transmit queue and the round, for what is sent; and the report buffer. -/
def State.settledAs (u t : State) : State :=
  { u with
    house := { u.house with
      curtains := t.house.curtains
      level := t.house.level }
    gov := t.gov
    travel := t.travel
    lights := { u.lights with channels := t.lights.channels }
    calls := { t.calls with library := u.calls.library }
    notices := { u.notices with
      queue := t.notices.queue
      nextAge := t.notices.nextAge
      roundCount := t.notices.roundCount
      roundDue := t.notices.roundDue }
    panel := { u.panel with
      reports := t.panel.reports
      overflow := t.panel.overflow } }

/-- A notice made in an event has been offered (R30, R31), and the transmit queue shows it when the event ends: it stands there
to be sent afresh on both rings; or both ports are DOWN, and it left as it joined (R14); or the queue refused or displaced it,
and is full of entries of no lower level than a given one. -/
def State.carries (t : State) (lowest : Nat) (n : Notice) : Prop :=
  (∃ e ∈ t.notices.queue, e.notice = n ∧ e.seq = none ∧ e.onAB = false ∧ e.onBA = false)
  ∨ (t.loop.portA.state = .down ∧ t.loop.portB.state = .down)
  ∨ (16 ≤ t.notices.queue.length ∧ ∀ e ∈ t.notices.queue, lowest ≤ e.notice.level)

/-- The house level that an event of s comes to forces the curtain into DROPPING (R123). -/
def State.forcesDrop (s : State) (level : Nat) : Bool :=
  level != s.house.level && decide (4 ≤ level) && [.raising, .raiseHeld, .up, .lowering, .lowerHeld].contains s.gov.state

/-- What the dispatcher holds at the end of an event that leaves its calls alone (R95, R129): a new house level is taken (R178),
and then, where DROPPING was entered, the warning call is applied. -/
def State.callsAfter (s : State) (level : Nat) (dropped : Bool) : Calls :=
  let taken : Calls :=
    if level = s.house.level then s.calls
    else (s.calls.takeLevel s.start.station s.now s.house.level level).1
  match s.definition? s.start.profile.warningCall with
  | none => taken
  | some d => if dropped = true then (taken.apply level s.now s.start.station d).1 else taken

/-- A report made in an event has joined the report buffer, or a report found it full (R189). -/
def State.reported (t : State) (r : Report) : Prop := r ∈ t.panel.reports ∨ t.panel.overflow = true

/-- The state after a symbol on a port (R3, R15, R18): the frame in progress, and the timers that every symbol but an
invalid one restarts. -/
def State.afterSymbol (s : State) (p : Port) (valid : Bool) (frame : Option (List Byte)) : State :=
  { s with loop := { s.loop.setPort p { s.loop.port p with
      silenceDue := if valid then s.now + 20000 else (s.loop.port p).silenceDue
      frame := frame } with
    loneDue := if valid = true ∧ s.loop.join = .bypass then some (s.now + 500000) else s.loop.loneDue } }

/-- What a house command applied to a state leaves (R68, R69, R82, R93, R96, Table 5-2), all else being as in u: the state and
isolations of the owned zones, whose view entries are told, zone 0, and the first-alarm order. A CONFIRMED zone without a
first cause tells its silencing with cause SMOKE (log 41). -/
def State.commanded (s : State) (c : HouseCommand) (u t : State) : Prop :=
  let lines :=
    if c = .houseReset then s.lines.records.map fun l =>
      if l.kind ≠ .unused ∧ (s.zones.any fun z => z.number == l.zone) = true then l.reevaluate else l
    else s.lines.records
  let after (z : ZoneRec) : ZoneRec :=
    match c with
    | .evacuate => z
    | .silence =>
      if z.state = .confirmed then
        z.told { z with state := .silenced } (z.firstCause.getD .smoke)
      else z
    | .houseReset =>
      let shown := z.isolation.any fun r => r.kind == .show
      let isolated := z.isolated && !shown
      z.told { z with
        state := derivedState lines z.number isolated
        ackDue := none
        investigationDue := none
        acknowledged := false
        firstCause := none
        isolated := isolated
        isolation := if shown then none else z.isolation } .reset
  let zone0 (st : ZoneState) : ZoneState :=
    match c, st with
    | .evacuate, .quiet => .confirmed
    | .evacuate, .silenced => .confirmed
    | .silence, .confirmed => .silenced
    | .houseReset, .confirmed => .quiet
    | .houseReset, .silenced => .quiet
    | _, st => st
  t = settledAs { u with
    lines := ⟨lines, s.lines.sampleDue⟩
    zones := s.zones.map after
    house := { u.house with view := t.house.view, firstAlarm := t.house.firstAlarm } } t
  ∧ (∀ v ∈ t.house.view, ∀ z ∈ s.zones, z.number = v.zone → v.tells (after z))
  ∧ (∀ v ∈ t.house.view, v.zone ≠ 0 → (∀ z ∈ s.zones, z.number = v.zone → after z = z) → v ∈ s.house.view)
  ∧ (∀ v, s.view? 0 = some v → t.view? 0 = some { v with state := zone0 v.state }
      ∧ (c = .evacuate → (v.state = .quiet ∨ v.state = .silenced ∨ v.state = .confirmed) → t.house.level = 5)
      ∧ (c = .evacuate → t.house.firstAlarm =
          if (v.state = .quiet ∨ v.state = .silenced) ∧ 0 ∉ s.house.firstAlarm then s.house.firstAlarm ++ [0]
          else s.house.firstAlarm))
  ∧ (c = .silence → t.house.firstAlarm = s.house.firstAlarm)
  ∧ (c = .houseReset → t.house.firstAlarm = [])

/-- What the end of every SHOW isolation leaves at the adoption of a phase (R79, R82), all else being as in u: the record goes;
where it was in force the isolated attribute is cleared, the zone's unlatched SMOKE lines are re-evaluated and its state is derived
(R51, R74, R75), and the zone view is told. A zone without a SHOW isolation stands, with its SERVICE isolation where it has one. -/
def State.showEnded (s u t : State) : Prop :=
  let shown (z : ZoneRec) : Bool := z.isolation.any fun r => r.kind == .show
  let freed (z : ZoneRec) : Bool := shown z && z.isolated
  let lines := s.lines.records.map fun l =>
    if l.kind = .smoke ∧ l.latched = false ∧ (s.zones.any fun z => z.number == l.zone && freed z) = true then l.reevaluate
    else l
  let after (z : ZoneRec) : ZoneRec :=
    if freed z = true then
      let st := z.rederived lines false
      { z with
        state := st
        isolated := false
        isolation := none
        epoch := z.epoch + 1
        lastCause := some (quietCause z.state st) }
    else if shown z = true then { z with isolation := none }
    else z
  t = settledAs { u with
    lines := ⟨lines, s.lines.sampleDue⟩
    zones := s.zones.map after
    house := { u.house with view := t.house.view } } t
  ∧ (∀ v ∈ u.house.view, (∀ z ∈ s.zones, z.number = v.zone → freed z = false) → v ∈ t.house.view)
  ∧ (∀ v ∈ t.house.view, ∀ z ∈ s.zones, z.number = v.zone → v.tells (after z))

/-- An owned zone's record replaced, and the zone view told of it (R70, R88). -/
def State.withZone (s : State) (w : ZoneRec) : State :=
  { s with
    zones := s.zones.map fun x => if x.number = w.number then w else x
    house := { s.house with view := s.house.view.map fun v =>
      if v.zone = w.number then { v with state := w.state, isolated := w.isolated, epoch := some w.epoch } else v } }

end Sys2Proof.Machine
end

