-- ==== Sys2Proof/Certificates/Slice0/Obligations.lean ====
section
/-! DEFINITION. The statements for the provers: what a step is, the laws every step keeps, the encodings, and the effect of
every command of the table with its frame. "now" is a moment on the model's time base (log 1); a command that a timer gives
acts at the moment the timer is due, `s.elapseTo due` (log 2). -/

open Sys2Proof Sys2Proof.Machine

/-! ### The step -/

/-- A step runs the command at the front of the queue on the queue's rest; on an empty queue one microsecond passes, which is
the model's choice (log 1). -/
def Obligations.StepRunsFrontCommand : Prop :=
  (∀ (c : Instr) (rest : List Instr) (s : Machine.State),
    step (s.withPending (c :: rest)) = exec c (s.withPending rest))
  ∧ (∀ s : Machine.State, s.pending = [] → step s = .next (s.elapse 1))

/-- Every command answers a next state and leaves the queue of commands as it is: the part has no stop. -/
def Obligations.EveryCommandAnswersNext : Prop :=
  ∀ (c : Instr) (s : Machine.State), ∃ t, exec c s = .next t ∧ t.pending = s.pending

/-- The start record, the key positions and the configuration memory change only at the commands that own them (R76, R192,
R195). That the mark whether the memory answers stands at every command but START_MODE_SETTLED is the model's choice (log 5):
a memory that stops answering later is not modelled. -/
def Obligations.OnlyOwnersChangeStartKeysMemory : Prop :=
  ∀ (c : Instr) (s t : Machine.State), exec c s = .next t →
    (∀ d u, c ≠ .powerOnReset d u) → (∀ d u, c ≠ .resetPin d u) →
    (c ≠ .profileAccessEnd → t.memory = s.memory)
    ∧ ((∀ a b d e, c ≠ .startModeSettled a b d e) → t.start = s.start ∧ t.memoryAnswers = s.memoryAnswers)
    ∧ ((∀ k, c ≠ .managerKeyChange k) → t.manager = s.manager)
    ∧ ((∀ k, c ≠ .engineerKeyChange k) → t.engineer = s.engineer)

/-! ### The laws that every step keeps -/

/-- R95, and R94 with R15, R35 and R125. -/
def Obligations.StepKeepsLevelAndFlagsLaws : Prop :=
  ∀ s t : Machine.State, step s = .next t → (s.LevelLaw → t.LevelLaw) ∧ (s.FlagsLaw → t.FlagsLaw)

/-- R123, R107; and R137, R132. -/
def Obligations.StepKeepsCurtainAndStageLaws : Prop :=
  ∀ s t : Machine.State, step s = .next t → (s.CurtainLaw → t.CurtainLaw) ∧ (s.StageLaw → t.StageLaw)

/-- R157, R158; and R146, R148. -/
def Obligations.StepKeepsLightAndFadeLaws : Prop :=
  ∀ s t : Machine.State, step s = .next t → (s.LightLaw → t.LightLaw) ∧ (s.FadeLaw → t.FadeLaw)

/-- R53, R61, R73, R75; and R46, R49, R50. -/
def Obligations.StepKeepsZoneAndLatchLaws : Prop :=
  ∀ s t : Machine.State, step s = .next t → (s.ZoneLaw → t.ZoneLaw) ∧ (s.LatchLaw → t.LatchLaw)

/-- The order, the age stamps, the merging and the leaving of the transmit queue (R29, R14): at most one PRESENCE and at most one
ZONE_STATE of a zone, since no two entries merge; and what every store may hold (R3, R9, R29, R32, R53, R87, R96, R163, R166, R189,
Table 1-1). -/
def Obligations.StepKeepsQueueAndStoreLaws : Prop :=
  ∀ s t : Machine.State, step s = .next t → (s.QueueLaw → t.QueueLaw) ∧ (s.StoreLaw → t.StoreLaw)

/-- R186, R187, R195, and the memory's canonical form. -/
def Obligations.StepKeepsReplyAndMemoryLaw : Prop :=
  ∀ s t : Machine.State, s.ReplyLaw → s.MemoryLaw → step s = .next t → t.ReplyLaw ∧ t.MemoryLaw

/-- R38, R39; and R9, R16, R18, R23. -/
def Obligations.StepKeepsRosterAndJoinLaws : Prop :=
  ∀ s t : Machine.State, step s = .next t → (s.RosterLaw → t.RosterLaw) ∧ (s.loop.JoinLaw → t.loop.JoinLaw)

/-- R88; and R97, R128. -/
def Obligations.StepKeepsViewAndOwnEntryLaws : Prop :=
  ∀ s t : Machine.State, step s = .next t → (s.ViewLaw → t.ViewLaw) ∧ (s.OwnEntryLaw → t.OwnEntryLaw)

/-- What is bound to what at the call dispatcher (R164, R166), and what the house level allows: a call other than call 0 is bound
only while its priority exceeds the level (R174, R178), and the evacuation record exists exactly at level 5 (R180). -/
def Obligations.StepKeepsCallLaw : Prop :=
  ∀ s t : Machine.State, s.CallLaw → step s = .next t → t.CallLaw

/-- The state after reset keeps every law. -/
def Obligations.ResetKeepsEveryLaw : Prop :=
  State.reset.LevelLaw ∧ State.reset.FlagsLaw ∧ State.reset.CurtainLaw ∧ State.reset.StageLaw ∧ State.reset.LightLaw
  ∧ State.reset.FadeLaw ∧ State.reset.ZoneLaw ∧ State.reset.LatchLaw ∧ State.reset.QueueLaw ∧ State.reset.StoreLaw
  ∧ State.reset.ReplyLaw ∧ State.reset.MemoryLaw ∧ State.reset.RosterLaw ∧ State.reset.loop.JoinLaw
  ∧ State.reset.ViewLaw ∧ State.reset.OwnEntryLaw ∧ State.reset.CallLaw

/-- What every command but a reset tells, from every lawful state. A zone whose state or isolated attribute changes has its epoch
advanced by one, offers its ZONE_STATE with the new epoch and the cause, and makes its ZONE report, which carries no cause (the
model's reading, log 19); the epoch of every other stands (R70, R87). A curtain whose state, latched error or proven flag changes
offers its CURTAIN notice and makes its CURTAIN report (R128); its first state is none of its changes (R130). An entry into
DROPPING, the first state among them, offers the warning call and applies it at this station, at the level the event comes to, also
where the level did not force the drop (the model's reading, log 12; R129 says so of a forced drop): its record stands in the call
queue where the queue has room for it, and it is dropped by DROP_ON_ALARM (R129, R167, R168). A new house level makes its LEVEL
report (R95). A notice that the queue refused or displaced is dropped (R31); a report that meets a full buffer sets the overflow
flag (R189). -/
def Obligations.EveryChangeIsTold : Prop :=
  ∀ (c : Instr) (s t : Machine.State), exec c s = .next t → s.QueueLaw → s.ZoneLaw → s.ViewLaw → s.OwnEntryLaw →
    (∀ d u, c ≠ .powerOnReset d u) → (∀ d u, c ≠ .resetPin d u) →
    ((∀ a b d e, c ≠ .startModeSettled a b d e) →
      (∀ k z w, s.zone? k = some z → t.zone? k = some w →
        (w.state = z.state ∧ w.isolated = z.isolated → w.epoch = z.epoch ∧ w.lastCause = z.lastCause)
        ∧ (w.state ≠ z.state ∨ w.isolated ≠ z.isolated → w.epoch = z.epoch + 1
            ∧ (∃ cause, w.lastCause = some cause ∧ t.carries 5 (.zoneState ⟨k, w.state, w.isolated, w.epoch⟩ cause))
            ∧ ∀ v, t.view? k = some v → t.reported (.zone v none none)))
      ∧ (t.gov.curtain ≠ 0 →
          t.gov.state ≠ s.gov.state ∨ t.gov.error ≠ s.gov.error ∨ t.gov.proven ≠ s.gov.proven →
          t.carries 6 (.curtain
            ⟨t.gov.curtain, t.gov.state, t.travel.accumulator / 1000, t.gov.proven, t.gov.error⟩
            (if t.gov.state = .lowering ∨ t.gov.state = .dropping then t.travel.stage else 0))
          ∧ ∀ k, t.curtain? t.gov.curtain = some k →
              t.reported (.curtainOwn k t.gov.busy t.gov.lastResult t.gov.proofMark)))
    ∧ (t.gov.state = .dropping → s.gov.state ≠ .dropping →
        ∀ d, t.definition? t.start.profile.warningCall = some d → 1 ≤ d.number →
          let served := [1, 2, 3, 4, 5, 6, 7, 8].filter fun a =>
            d.areas.getLsbD (a - 1) && t.calls.channels.any fun k => k.inUse && k.area == a
          t.carries 2 (.call d)
          ∧ (served ≠ [] → d.dropOnAlarm = false ∨ t.house.level < d.priority →
              (∃ r ∈ t.calls.queue, r.number = d.number ∧ r.origin = t.start.station ∧ r.pattern = d.pattern
                ∧ r.priority = d.priority ∧ r.items.map CallItem.area = served) ∨ 24 ≤ t.calls.queue.length)
          ∧ (served ≠ [] → d.dropOnAlarm = true → d.priority ≤ t.house.level →
              ∀ r ∈ t.calls.queue, r.number ≠ d.number))
    ∧ (t.house.level ≠ s.house.level → t.reported (.level s.house.level t.house.level))

/-! ### Encodings -/

/-- A notice within the ranges of Table 2-1 is read back from the body it is coded in (R26, R37). -/
def Obligations.NoticeReadsBack : Prop :=
  ∀ n : Notice, n.inRange = true → Notice.parse n.kindCode n.body = some n

/-- A frame of origin 1 to 63, hop budget 0 to 63 and a body of at most 48 bytes is read back from its bytes as good
(R4, R6); and no other list of bytes of the same good frame exists. -/
def Obligations.FrameReadsBack : Prop :=
  (∀ f : Frame, 1 ≤ f.origin.toNat → f.origin.toNat ≤ 63 → f.hop.toNat ≤ 63 → f.body.length ≤ 48 →
    Frame.ofBytes f.bytes = some f)
  ∧ (∀ (bytes : List Byte) (f : Frame), Frame.ofBytes bytes = some f → bytes = f.bytes)

/-! ### Resets and the start -/

/-- A power-on reset and a reset through the reset pin (R192): every block is as its chapter leaves it, and the configuration
memory keeps its contents, but for a write in course, of which it has taken some bytes (R195). That these are a run from the
first, and the counter freeCount that rises with each reset, are the model's choice (log 9). What the blocks then hold: the loop
interface (R24), notice unit and roster (R44), lines and zones (R72), keys, house (R104), governor and motion status record (R107,
R130), supervisor (R145), light channels (R162), dispatcher (R183), panel line (R191). The time base restarts (log 1); the values of
the working copy before the settling (log 7), the curtain table's fields beside station and present (log 29) and the unknown descent
start position (log 49) are the model's choice. -/
def Obligations.ResetsRestartEveryBlock : Prop :=
  (∀ (s : Machine.State) (down up : Bool), ∃ m,
    exec (.powerOnReset down up) s
      = .next (State.afterReset .powerOn down up m s.memoryAnswers (s.freeCount + 1) s.pending)
    ∧ exec (.resetPin down up) s
      = .next (State.afterReset .resetPin down up m s.memoryAnswers (s.freeCount + 1) s.pending)
    ∧ (match s.panel.access with
       | some (.write _ address bytes) => ∃ k ≤ bytes.length, m = Memory.writeAll s.memory address.toNat (bytes.take k)
       | _ => m = s.memory))
  ∧ ∀ (cause : StartCause) (down up : Bool) (m : List Host.Cell) (answers : Bool) (n : Nat) (q : List Instr),
    let t := State.afterReset cause down up m answers n q
    t.start.mode = none ∧ t.start.cause = cause
    ∧ t.loop.join = .bypass ∧ t.loop.join.relaysEnergised = false
    ∧ t.loop.dirAB = ⟨.off, []⟩ ∧ t.loop.dirBA = ⟨.off, []⟩
    ∧ (∀ p, (t.loop.port p).state = .up ∧ (t.loop.port p).joinCount = 0 ∧ (t.loop.port p).frame = none
        ∧ (t.loop.port p).silenceDue = t.now + 20000)
    ∧ t.loop.loneDue = some (t.now + 500000)
    ∧ t.travel.previous = none ∧ t.travel.accumulator = t.start.profile.params.length * 1000 ∧ t.travel.known = false
    ∧ t.travel.displacement = 0 ∧ t.travel.velocity = 0 ∧ t.travel.stage = 0 ∧ t.travel.overRun = 0
    ∧ t.travel.underRun = 0 ∧ t.travel.lateRun = 0 ∧ t.travel.raiseOver = 0 ∧ t.travel.raiseUnder = 0
    ∧ t.travel.elapsed = 0 ∧ t.travel.closure = 0 ∧ t.travel.overspeedFound = false ∧ t.travel.lateFound = false
    ∧ t.travel.sampleDue = none ∧ damperOutput t.gov t.travel = 0
    ∧ t.panel.assembler = .outOfService ∧ t.panel.replies = [] ∧ t.panel.reports = [] ∧ t.panel.overflow = false
    ∧ t.panel.tx = none
    ∧ t.gov = ⟨0, .down, .none, none, .none, false, none, 0, down, up, false⟩
    ∧ t.gov.holdOff = false ∧ t.gov.motorUp = false ∧ t.gov.busy = false
    ∧ t.notices.queue = [] ∧ t.notices.nextAge = 0 ∧ t.notices.awaiting = [] ∧ t.notices.ownSeq = 0
    ∧ t.notices.commandSeq = 0 ∧ t.notices.integrity = .whole ∧ t.notices.roundCount = 0 ∧ t.notices.roundDue = none
    ∧ t.notices.roster = (List.range 63).map (fun i => ⟨i + 1, .absent, none, none, none, false, none, none⟩)
    ∧ t.lines.sampleDue = none ∧ t.lines.records.map LineRec.number = (List.range 32).map (· + 1)
    ∧ (∀ l ∈ t.lines.records, l.kind = .unused ∧ l.state = .unused ∧ l.reading = none ∧ l.run = 0 ∧ l.latched = false)
    ∧ t.zones = []
    ∧ t.calls.library = [] ∧ t.calls.queue = [] ∧ t.calls.nextStamp = 0 ∧ t.calls.evacuation = none
    ∧ (∀ d ∈ t.calls.channels, d.state = .idle ∧ d.bound = none ∧ d.count = 0 ∧ d.sounder = none)
    ∧ t.lights.tickDue = none
    ∧ (∀ c ∈ t.lights.channels, c.level = 0 ∧ c.fade = none ∧ c.override = .none ∧ c.pending = none
        ∧ c.counter t.start.profile.period t.now = 0 ∧ c.compareReg = 0 ∧ c.compareBuf = 0
        ∧ c.output t.start.profile.period t.now = false)
    ∧ t.house.view = (List.range 49).map (fun z => ⟨z, 0, .quiet, false, none, false⟩)
    ∧ t.house.curtains = (List.range 4).map (fun i => ⟨i + 1, 0, .down, 0, false, none, false⟩)
    ∧ t.house.firstAlarm = [] ∧ t.house.flags = ⟨false, false, false, false⟩ ∧ t.house.level = 0
    ∧ t.house.phase = .closed ∧ t.house.phaseSeq = 0 ∧ t.house.phaseOrigin = 0
    ∧ t.manager = none ∧ t.engineer = none

/-- The start mode settled after a reset (R192): SERVICE by the strap, PROFILE_FAULT by a failed validation, NORMAL otherwise, with
the station number, the fault reason (held in PROFILE_FAULT alone, log 30) and the working copy, which SERVICE holds too; that it is
`Profile.reset` after a failed validation is the model's choice (log 7). The start report stands before every other of the event. In
every mode the view is QUIET with the owners of the zone map (R104), the own roster entry is SELF with the station's roles (R38; in
SERVICE all zero, the model's choice, log 44), joining is judged (R17), and the panel line comes into service. NORMAL gives lines,
zones, channels, the library (R163) and the curtain's first state, DOWN at a down arrival and else a descent, with LIMIT_DISAGREE
where the limits disagree (R46, R53, R130, R133, R146, R164); a first state of DROPPING offers the warning call (R129, R130). That
the descent start position is unknown in a first state of DOWN is the model's choice (log 49), and so are the fields of a channel
that the image does not list, and the zone 0 that every line holds in SERVICE (log 54; before the settling and after a failed
validation, log 7). A second settling changes nothing (the model's choice, log 35). -/
def Obligations.StartModeSettles : Prop :=
  ∀ (s : Machine.State) (straps : BitVec 6) (low answers : Bool) (encoder : Half),
    (s.start.mode.isSome = true → exec (.startModeSettled straps low answers encoder) s = .next s)
    ∧ (s.start.mode = none → ∃ t, exec (.startModeSettled straps low answers encoder) s = .next t
        ∧ t.start.station = straps.toNat ∧ t.start.cause = s.start.cause ∧ t.memory = s.memory
        ∧ t.memoryAnswers = answers ∧ t.manager = s.manager ∧ t.engineer = s.engineer ∧ t.now = s.now
        ∧ t.panel.assembler = .hunt ∧ t.panel.replies = s.panel.replies ∧ t.panel.tx = s.panel.tx
        ∧ t.panel.access = s.panel.access ∧ t.panel.waiting = s.panel.waiting
        ∧ t.house.phase = s.house.phase ∧ t.house.firstAlarm = s.house.firstAlarm
        ∧ t.notices.ownSeq = s.notices.ownSeq ∧ t.notices.awaiting = s.notices.awaiting
        ∧ t.house.level = t.house.flags.level
        ∧ (∀ q ∈ t.notices.roster, q.number = straps.toNat → q.state = .self ∧ q.ownRoles = some t.roles)
        ∧ (t.loop.join = .active ↔ s.loop.join = .active
            ∨ s.loop.join = .bypass ∧ t.start.mode ≠ some .service ∧ s.loop.joinReady = true)
        ∧ (∀ mode, t.start.mode = some mode → s.panel.reports.length < 32 →
            t.panel.reports[s.panel.reports.length]? = some (.stationStart straps.toNat mode s.start.cause t.start.faultReason
              (if answers = true then Memory.read s.memory 0 else 0)
              (if answers = true then Memory.read s.memory 2 ++ Memory.read s.memory 3 else 0)))
        ∧ t.house.view = (List.range 49).map (fun z => ⟨z, t.start.profile.owner z, .quiet, false,
            if t.start.mode = some .normal ∧ t.start.profile.owner z ≠ 0 ∧ t.start.profile.owner z = straps.toNat then some 0
            else none, false⟩)
        ∧ (match low, validate straps.toNat answers s.memory with
           | true, v => t.start.mode = some .service ∧ t.start.faultReason = none
               ∧ t.start.profile = (match v with | .ok p => p | .error _ => Profile.reset)
               ∧ t.lines = s.lines ∧ t.zones = s.zones ∧ t.gov.curtain = s.gov.curtain
           | false, .error why => t.start.mode = some .profileFault ∧ t.start.faultReason = some why
               ∧ t.start.profile = Profile.reset
               ∧ t.lines = s.lines ∧ t.zones = s.zones ∧ t.gov.curtain = s.gov.curtain
           | false, .ok p => t.start.mode = some .normal ∧ t.start.faultReason = none ∧ t.start.profile = p
               ∧ t.lights.tickDue = some (s.now + 20000)
               ∧ t.gov.curtain = p.curtain ∧ t.calls.library = p.library
               ∧ t.zones = (((List.range 48).map (· + 1)).filter fun z => p.owner z == straps.toNat).map (fun z =>
                   ⟨z, p.investigable.contains z, .quiet, false, 0, none, none, false, none, none, none⟩)
               ∧ t.lines = ⟨(List.range 32).map (fun i =>
                   let entry := (p.lines[i]?).getD (.unused, 0)
                   let kind := if p.owner entry.2 = straps.toNat then entry.1 else .unused
                   ⟨i + 1, kind, entry.2, none, 0, if kind = .unused then .unused else .normal, false⟩), some (s.now + 250000)⟩
               ∧ t.lights.channels.map (fun c => (c.number, c.inUse, c.group, c.curve, c.safety, c.floor))
                   = s.lights.channels.map (fun c =>
                      match (p.lights[c.number - 1]? : Option LightConfig) with
                      | some ⟨true, group, curve, safety, floor⟩ => (c.number, true, group, curve, safety, floor)
                      | _ => (c.number, c.inUse, c.group, c.curve, c.safety, c.floor))
               ∧ t.calls.channels.map (fun d => (d.number, d.inUse, d.area, d.evacuation))
                   = s.calls.channels.map (fun d =>
                      match (p.sounders[d.number - 1]? : Option SounderConfig) with
                      | some ⟨true, area, evacuation⟩ => (d.number, true, area, evacuation)
                      | _ => (d.number, d.inUse, d.area, d.evacuation))
               ∧ (s.gov = ⟨0, .down, .none, none, .none, false, none, 0, s.gov.downClosed, s.gov.upClosed, s.gov.raiseKey⟩ →
                   (p.curtain = 0 → t.gov = s.gov ∧ t.house.flags = s.house.flags ∧ t.travel = Travel.reset p.params.length)
                   ∧ (p.curtain ≠ 0 →
                      let arrived : Bool := s.gov.downClosed && !s.gov.upClosed
                      let both : Bool := s.gov.downClosed && s.gov.upClosed
                      t.gov = { s.gov with
                        curtain := p.curtain
                        state := if arrived then .down else .dropping
                        error := if both then some .limitDisagree else none }
                      ∧ t.travel.sampleDue = some (s.now + 50000) ∧ t.travel.stage = (if arrived then 0 else 1)
                      ∧ t.travel.previous = some (if p.params.inverted = true then 65535 - encoder else encoder)
                      ∧ t.house.flags = (if both then { s.house.flags with curtainFault := true } else s.house.flags)
                      ∧ (arrived = false → ∀ d, p.library.find? (fun d => d.number == p.warningCall) = some d →
                          t.carries 2 (.call d))
                      ∧ ∀ c ∈ t.house.curtains, c.curtain = p.curtain → c = ⟨p.curtain, straps.toNat, t.gov.state,
                          t.travel.accumulator / 1000, false, t.gov.error, true⟩))))

/-- The validation of the image for a station number (R193, R194): the checks in order, each with its fault reason, and what the
working copy of an image that passes holds, with the clampings and defaults of R54, R132 (section 7.1) and R146 and the definitions
that R163 lets in. That a definition's flags above 3 are an unknown code is log 36, and that a call number outside 1 to 250 is not
taken is log 33, both DEDUCED; groups and areas that no rule clamps are free values within their ranges (log 10). -/
def Obligations.ProfileIsValidated : Prop :=
  ∀ (n : Nat) (answers : Bool) (m : List Host.Cell),
    let got := validate n answers m
    let at_ (b : List Byte) (i : Nat) : Nat := ((b[i]?).getD 0).toNat
    let half (b : List Byte) (i : Nat) : Nat := at_ b i * 256 + at_ b (i + 1)
    let clamped (lo hi x : Nat) : Nat := max lo (min x hi)
    let len := (Memory.read m 2).toNat * 256 + (Memory.read m 3).toNat
    let rest := Memory.readAll m 6 (len - 6)
    let fills (l : List Section) : Prop :=
      l.length = (Memory.read m 1).toNat
      ∧ rest = l.flatMap (fun x => byteOf x.number :: (halfOf x.fields.length ++ x.fields))
      ∧ (∀ x ∈ l, x.number ≤ 63 ∧ x.fields.length ≤ 65535)
      ∧ (l.map Section.number).Nodup ∧ (l.map Section.number)[0]? = some 0
    let houseStands (b : List Byte) : Prop :=
      at_ b 48 ≤ 32 ∧ b.length = 56 + 9 * at_ b 48 ∧ (∀ k, k < at_ b 48 → at_ b (57 + 9 * k) ≤ 3)
      ∧ ∀ k, k < 48 → at_ b k ≤ 63
    let ownStands (b : List Byte) : Prop :=
      let v := at_ b 80
      v ≤ 48 ∧ b.length = 185 + v ∧ at_ b 0 ≤ 4 ∧ at_ b 15 ≤ 1 ∧ (∀ k, k < 32 → at_ b (16 + 2 * k) ≤ 3)
      ∧ (∀ k, k < 12 → at_ b (85 + v + 6 * k) ≤ 1 ∧ at_ b (87 + v + 6 * k) ≤ 1 ∧ at_ b (88 + v + 6 * k) ≤ 1)
      ∧ at_ b (159 + v) ≤ 1 ∧ ∀ k, k < 8 → at_ b (161 + v + 3 * k) ≤ 1 ∧ at_ b (163 + v + 3 * k) ≤ 1
    (n = 0 → got = .error .noNumber)
    ∧ (n ≠ 0 → answers = false → got = .error .noMemory)
    ∧ (n ≠ 0 → answers = true →
      (Memory.read m 0 ≠ 1 → got = .error .format)
      ∧ (Memory.read m 0 = 1 → len < 6 ∨ 4096 < len → got = .error .length)
      ∧ (Memory.read m 0 = 1 → 6 ≤ len → len ≤ 4096 →
        (crc16 rest ≠ Memory.read m 4 ++ Memory.read m 5 → got = .error .crc)
        ∧ (crc16 rest = Memory.read m 4 ++ Memory.read m 5 →
          ((¬∃ l, fills l) → got = .error .sections)
          ∧ ∀ l, fills l →
            ((∀ x ∈ l, x.number ≠ n) → got = .error .noStationSection)
            ∧ ∀ house ∈ l, ∀ own ∈ l, house.number = 0 → own.number = n →
              let h := house.fields
              let b := own.fields
              let q := at_ h 48
              let v := at_ b 80
              let sound : Prop := houseStands h ∧ ownStands b ∧ ((h.take 48).filter fun z => z.toNat == n).length ≤ 8
              (¬sound → got = .error .field)
              ∧ (sound → ∃ p, got = .ok p
                ∧ p.zoneMap = (h.take 48).map BitVec.toNat
                ∧ p.phaseCalls = ((h.drop (49 + 9 * q)).take 6).map BitVec.toNat ∧ p.warningCall = at_ h (55 + 9 * q)
                ∧ (let e (k i : Nat) : Nat := at_ h (49 + 9 * k + i)
                   let taken (k : Nat) : Bool := decide (1 ≤ e k 0 ∧ e k 0 ≤ 250 ∧ e k 1 ≤ 14 ∧ e k 2 ≠ 0 ∧ 1 ≤ e k 3
                    ∧ 1 ≤ half h (53 + 9 * k) ∧ half h (53 + 9 * k) ≤ 600 ∧ 1 ≤ e k 6 ∧ e k 6 ≤ 7 ∧ ∀ j, j < k → e j 0 ≠ e k 0)
                   p.library.map (fun d => (d.number, d.pattern, d.areas.toNat, d.repeats, d.interval, d.priority, d.ackWanted,
                      d.dropOnAlarm))
                    = ((List.range q).filter taken).map (fun k => (e k 0, e k 1, e k 2, e k 3, half h (53 + 9 * k), e k 6,
                        e k 8 % 2 == 1, decide (2 ≤ e k 8)))
                   ∧ ∀ d ∈ p.library, d.group ≤ 3
                      ∧ ∀ k, k < q → e k 0 = d.number → (∀ j, j < k → e j 0 ≠ d.number) → e k 7 ≤ 3 → d.group = e k 7)
                ∧ p.curtain = at_ b 0
                ∧ (let length := clamped 2000 25000 (half b 3)
                   let fast := clamped 100 2000 (half b 7)
                   p.params = ⟨clamped 50 5000 (half b 1), length, min (clamped 0 3000 (half b 5)) (length - 1), fast,
                    min (clamped 50 500 (half b 9)) fast, clamped 50 1000 (half b 11), clamped 10000 60000 (half b 13),
                    at_ b 15 == 1⟩)
                ∧ p.lines.map (fun e => (e.1.index, e.2))
                    = (List.range 32).map (fun k => (at_ b (16 + 2 * k), at_ b (17 + 2 * k)))
                ∧ p.investigable = ((b.drop 81).take v).map BitVec.toNat
                ∧ p.ackWindow = (if half b (81 + v) = 0 then 30 else clamped 10 60 (half b (81 + v)))
                ∧ p.investigation = (if half b (83 + v) = 0 then 180 else clamped 60 300 (half b (83 + v)))
                ∧ p.lights.map (fun c => (c.listed, c.curve == .square, c.safety, c.floor))
                    = (List.range 12).map (fun k => (at_ b (85 + v + 6 * k) == 1, at_ b (87 + v + 6 * k) == 1,
                        at_ b (88 + v + 6 * k) == 1, min 1000 (half b (89 + v + 6 * k))))
                ∧ (∀ c ∈ p.lights, c.group ≤ 15)
                ∧ (∀ k c, p.lights[k]? = some c → at_ b (86 + v + 6 * k) ≤ 15 → c.group = at_ b (86 + v + 6 * k))
                ∧ p.period = clamped 100 10000 (half b (157 + v))
                ∧ p.overrideTime = (if at_ b (159 + v) = 1 then min 50 (at_ b (160 + v)) else 20)
                ∧ p.sounders.map (fun c => (c.listed, c.evacuation))
                    = (List.range 8).map (fun k => (at_ b (161 + v + 3 * k) == 1, at_ b (163 + v + 3 * k) == 1))
                ∧ (∀ c ∈ p.sounders, 1 ≤ c.area ∧ c.area ≤ 8)
                ∧ ∀ k c, p.sounders[k]? = some c → 1 ≤ at_ b (162 + v + 3 * k) → at_ b (162 + v + 3 * k) ≤ 8 →
                    c.area = at_ b (162 + v + 3 * k)))))

/-! ### The loop interface (chapter 1) -/

/-- Symbols at an assembler (R3), with the timers they restart (R15, R18): a data byte joins a frame in progress of fewer than
55 bytes and otherwise ends it, an opening mark begins a frame, an abort mark or an invalid symbol ends one, and a closing mark
outside a frame is ignored. LOOP_FRAME_ABORTED is such a symbol; that it changes nothing where no frame is in progress is the
model's choice (log 3: an abort mark outside a frame is a LOOP_SYMBOL_RECEIVED). Nothing else changes. In SELF_TEST the receiver
hears its own transmitter alone (R22): of what frame and in which order is log 43, and a symbol it cannot hear changes nothing. -/
def Obligations.LoopSymbolsGather : Prop :=
  ∀ (s : Machine.State) (p : Port), s.Quiet →
    (∀ b, s.hears p (.data b) = true → exec (.loopSymbolReceived p (.data b)) s = .next (s.afterSymbol p true
        (match (s.loop.port p).frame with
         | none => none
         | some bytes => if bytes.length < 55 then some (bytes ++ [b]) else none)))
    ∧ (s.hears p .opening = true → (s.loop.dir (ringInto p)).crowded = false →
        exec (.loopSymbolReceived p .opening) s = .next (s.afterSymbol p true (some [])))
    ∧ (s.loop.join ≠ .selfTest →
        exec (.loopSymbolReceived p .abort) s = .next (s.afterSymbol p true none)
        ∧ exec (.loopSymbolReceived p .invalid) s = .next (s.afterSymbol p false none)
        ∧ ((s.loop.port p).frame = none →
            exec (.loopSymbolReceived p .closing) s = .next (s.afterSymbol p true none))
        ∧ (∀ bytes, (s.loop.port p).frame = some bytes →
            exec (.loopFrameAborted p .abortMark) s = .next (s.afterSymbol p true none)
            ∧ exec (.loopFrameAborted p .invalidSymbol) s = .next (s.afterSymbol p false none)
            ∧ (55 ≤ bytes.length → ∀ b,
                exec (.loopFrameAborted p (.excessByte b)) s = .next (s.afterSymbol p true none))))
    ∧ ((s.loop.port p).frame = none → ∀ c, exec (.loopFrameAborted p c) s = .next s)
    ∧ (∀ sym, s.loop.join ≠ .selfTest → s.hears p sym = true)
    ∧ (∀ sym, s.hears p sym = false → exec (.loopSymbolReceived p sym) s = .next s)
    ∧ (s.loop.join = .selfTest →
        (s.StoreLaw → ∀ c, exec (.loopFrameAborted p c) s = .next s)
        ∧ ∀ sym, (s.hears p sym = true ↔
            (∃ f done, (s.loop.dir (ringInto p)).tx = .sendInsert f done
              ∧ ((s.loop.port p).frame = none ∧ sym = .opening
                ∨ ∃ bytes b, (s.loop.port p).frame = some bytes ∧ f.bytes[bytes.length]? = some b ∧ sym = .data b))
            ∨ ∃ ready, (s.loop.dir (ringInto p)).tx = .gap ready
              ∧ ((s.loop.port p).frame = none ∧ sym = .gapFill
                ∨ (s.loop.port p).frame ≠ none ∧ sym = .closing)))

/-- Gap fill (R15, R17): outside BYPASS, at a port that is UP, it ends a frame in progress and restarts the timers; in BYPASS
it counts toward joining, to 2; at a port that is DOWN it makes the port UP, clears its fault flag, and reports it, and in BYPASS
it counts too, and the station joins where the counts are then complete. In SELF_TEST gap fill is heard from the own transmitter
between frames (R22, log 43). -/
def Obligations.GapFillCountsAndRaisesPort : Prop :=
  ∀ (s : Machine.State) (p : Port), s.Quiet →
    let counted (u : Machine.State) : Machine.State := u.onPort p fun r => { r with joinCount := min 2 (r.joinCount + 1) }
    let raised : Machine.State := { (s.afterSymbol p true none).onPort p (fun r => { r with state := .up }) with
      house := { s.house with flags := s.house.flags.setPort p false } }
    exec (.loopSymbolReceived p .gapFill) s = exec (.gapFillReceived p) s
    ∧ ((s.loop.port p).frame.isSome = true → exec (.loopFrameAborted p .gapFill) s = exec (.gapFillReceived p) s)
    ∧ (s.hears p .gapFill = false → exec (.gapFillReceived p) s = .next s)
    ∧ (s.hears p .gapFill = true →
      ((s.loop.port p).state = .up → s.loop.join ≠ .bypass →
        exec (.gapFillReceived p) s = .next (s.afterSymbol p true none))
      ∧ ((s.loop.port p).state = .up → s.loop.join = .bypass → s.mayJoin = false →
        exec (.gapFillReceived p) s = .next (counted (s.afterSymbol p true none)))
      ∧ ((s.loop.port p).state = .down → s.loop.join ≠ .bypass → ∃ t, exec (.gapFillReceived p) s = .next t
        ∧ (t.loop.port p).state = .up ∧ t = State.settledAs raised t)
      ∧ ((s.loop.port p).state = .down → s.loop.join = .bypass → ∃ t, exec (.gapFillReceived p) s = .next t
        ∧ (t.loop.port p).state = .up ∧ (t.loop.port p).joinCount = min 2 ((s.loop.port p).joinCount + 1)
        ∧ if s.mayJoin = true ∧ (counted raised).loop.joinReady = true then
            t = State.settledAs { counted raised with loop := { (counted raised).loop with
              join := .active, dirAB := ⟨.gap (s.now + 20), []⟩, dirBA := ⟨.gap (s.now + 20), []⟩, loneDue := none } } t
          else t = State.settledAs (counted raised) t))

/-- Joining (R17, R18): in BYPASS with the start mode NORMAL or PROFILE_FAULT, the gap fill that completes the counts, and the
expiry of the lone-start timer, make the station ACTIVE with both transmitters in GAP and both repeat buffers empty, and report
it; the first time, the first round is made at that moment (R42). -/
def Obligations.StationJoins : Prop :=
  ∀ (s : Machine.State), s.Quiet → s.loop.join = .bypass → s.mayJoin = true →
    (∀ p, (s.loop.port p).state = .up →
      let u := (s.afterSymbol p true none).onPort p fun r => { r with joinCount := min 2 (r.joinCount + 1) }
      let j : Machine.State := { u with loop := { u.loop with
        join := .active, dirAB := ⟨.gap (s.now + 20), []⟩, dirBA := ⟨.gap (s.now + 20), []⟩, loneDue := none } }
      (u.loop.joinReady = true → exec (.gapFillReceived p) s
          = .next ((if s.notices.roundDue = none then j.round s.now else j).reporting [.loopJoin .active]))
      ∧ (u.loop.joinReady = false → exec (.gapFillReceived p) s = .next u))
    ∧ (∀ due, s.loop.loneDue = some due →
        let u := s.elapseTo due
        let j : Machine.State := { u with loop := { u.loop with
          join := .active, dirAB := ⟨.gap (u.now + 20), []⟩, dirBA := ⟨.gap (u.now + 20), []⟩, loneDue := none } }
        exec .loneStartExpiry s
          = .next ((if s.notices.roundDue = none then j.round u.now else j).reporting [.loopJoin .active]))

/-- The silence timer (R15): at a port that is UP the port becomes DOWN, its frame in progress is discarded and its join count
cleared, its fault flag is set, the house level is at least 1, and the entries that then count as inserted on both rings leave the
transmit queue (R14). In BYPASS, where the counts are then complete, the station joins (R17, Table 1-6), with the first round the
first time (R42). At a port that is DOWN nothing changes. In SELF_TEST the port hears its own transmitter, which is never silent
(R22): there a timer expires only where it is due by the end of the first gap fill symbol after the entry, and changes nothing
elsewhere (the model's reading, log 43). -/
def Obligations.SilentPortGoesDown : Prop :=
  ∀ (s : Machine.State) (p : Port), s.Quiet → s.LightLaw →
    let u := s.elapseTo (s.loop.port p).silenceDue
    let heard : Prop := s.loop.join = .selfTest
      ∧ ∀ ready, (s.loop.dir (ringInto p)).tx = .gap ready → ready < (s.loop.port p).silenceDue + 10
    let l := u.loop.setPort p { u.loop.port p with state := .down, frame := none, joinCount := 0 }
    let queue := u.notices.queue.filter fun e => !(e.countsOn l .ab && e.countsOn l .ba)
    let flags := u.house.flags.setPort p true
    let joins : Prop := s.loop.join = .bypass ∧ s.mayJoin = true ∧ l.joinReady = true
    ((s.loop.port p).state = .down ∨ heard → exec (.silenceTimerExpiry p) s = .next s)
    ∧ ((s.loop.port p).state = .up → ¬heard → ¬joins → ∃ t, exec (.silenceTimerExpiry p) s = .next t
        ∧ t = { u with
            loop := l
            notices := { u.notices with queue := queue }
            house := { u.house with
              flags := flags
              level := max 1 s.house.level }
            calls := { t.calls with library := u.calls.library }
            panel := { u.panel with reports := t.panel.reports, overflow := t.panel.overflow } })
    ∧ ((s.loop.port p).state = .up → joins → ∃ t, exec (.silenceTimerExpiry p) s = .next t
        ∧ t = State.settledAs { u with
            loop := { l with
              join := .active, dirAB := ⟨.gap (u.now + 20), []⟩, dirBA := ⟨.gap (u.now + 20), []⟩, loneDue := none }
            notices := { u.notices with queue := queue }
            house := { u.house with flags := flags } } t
        ∧ t.house.level = max 1 s.house.level
        ∧ (s.notices.roundDue = none → t.notices.roundDue = some (u.now + 2000000)
            ∧ t.notices.roundCount = min 4 (s.notices.roundCount + 1))
        ∧ (s.notices.roundDue ≠ none → t.notices = { u.notices with queue := t.notices.queue, nextAge := t.notices.nextAge }))

/-- A frame completed on a port (R6, R7, R8, R10, R33, R35, Table 1-3). Not good, or in BYPASS: only the assembler and the timers
change. Of this station's origin: a return, which marks the awaiting entry, or removes it as returned whole and turns an OPEN
integrity CLOSED, and nothing is repeated. Of another station with hop budget 0: discarded. In ECHO_TEST: placed for repeating,
where a third finds no place. In ACTIVE, discarded by the roster: placed alone. In SELF_TEST the closing mark is heard once the own
insertion is completed (R22, log 43), and a frame of another origin, which does not arise there, is discarded (Table 1-3; the
model's reading, log 24). -/
def Obligations.LoopFrameIsHandled : Prop :=
  ∀ (s : Machine.State) (p : Port) (bytes : List Byte), s.Quiet → (s.loop.port p).frame = some bytes →
    let u := s.afterSymbol p true none
    let placed (f : Frame) := u.onDir (ringInto p) fun d =>
      if d.buffer.length < 2 then { d with buffer := d.buffer ++ [f] } else d
    exec (.loopSymbolReceived p .closing) s = exec (.loopFrameReceived p) s
    ∧ (s.hears p .closing = false → exec (.loopFrameReceived p) s = .next s)
    ∧ (s.hears p .closing = true → Frame.ofBytes bytes = none ∨ s.loop.join = .bypass →
        exec (.loopFrameReceived p) s = .next u)
    ∧ (∀ f, s.hears p .closing = true → Frame.ofBytes bytes = some f → s.loop.join ≠ .bypass →
        (f.origin.toNat = s.start.station →
          (s.notices.awaiting.find? (fun a => a.seq == f.seq) = none → exec (.loopFrameReceived p) s = .next u)
          ∧ (∀ a, s.notices.awaiting.find? (fun a => a.seq == f.seq) = some a →
              (((a.setReturned (ringInto p)).returnedAB && (a.setReturned (ringInto p)).returnedBA) = false →
                exec (.loopFrameReceived p) s = .next { u with notices := { u.notices with
                  awaiting := u.notices.awaiting.map fun b =>
                    if b.seq = f.seq then a.setReturned (ringInto p) else b } })
              ∧ (((a.setReturned (ringInto p)).returnedAB && (a.setReturned (ringInto p)).returnedBA) = true →
                let gone : Notices := { u.notices with awaiting := u.notices.awaiting.filter fun b => b.seq != f.seq }
                (s.notices.integrity = .whole → exec (.loopFrameReceived p) s = .next { u with notices := gone })
                ∧ (s.notices.integrity = .broken → ∃ t, exec (.loopFrameReceived p) s = .next t
                    ∧ t = State.settledAs { u with
                        notices := { gone with integrity := .whole }
                        house := { u.house with flags := { u.house.flags with loopOpen := false } } } t))))
        ∧ (f.origin.toNat ≠ s.start.station →
          (f.hop = 0 ∨ s.loop.join = .selfTest → exec (.loopFrameReceived p) s = .next u)
          ∧ (f.hop ≠ 0 → s.loop.join = .echoTest → exec (.loopFrameReceived p) s = .next (placed f))
          ∧ (f.hop ≠ 0 → s.loop.join = .active →
              (∀ q, s.peer? f.origin.toNat = some q → q.accepts f.seq (Notice.parse f.kind f.body) = false) →
              exec (.loopFrameReceived p) s = .next (placed f))))

/-- A notice accepted from a peer (R36, R38, R40, R41): the peer's entry becomes PRESENT with the notice's sequence as its last, the
absence timer restarted, the ring that delivered it, the fresh-seen mark and the latest presence that a PRESENCE gives; the frame
is placed for repeating, and what it delivers leaves the loop interface and the rest of the roster alone. The acceptance tests are
those of R36 and R41; that a PRESENCE that is not well formed carries no FRESH flag is the model's choice (log 14). -/
def Obligations.AcceptedNoticeWritesRoster : Prop :=
  (∀ (q : Peer) (seq : Byte) (n : Option Notice), q.accepts seq n = true ↔
      (∃ b, n = some (.presence b) ∧ b.fresh = true ∧ q.freshSeen = false)
      ∨ q.state = .absent
      ∨ (q.state = .present ∧ ∀ o, q.lastSeq = some o → 1 ≤ (seq - o).toNat ∧ (seq - o).toNat ≤ 127))
  ∧ ∀ (s : Machine.State) (p : Port) (bytes : List Byte) (f : Frame) (q : Peer),
    (s.loop.port p).frame = some bytes → Frame.ofBytes bytes = some f → s.loop.join = .active → f.hop ≠ 0 →
    f.origin.toNat ≠ s.start.station → s.peer? f.origin.toNat = some q →
    q.accepts f.seq (Notice.parse f.kind f.body) = true →
    ∃ t, exec (.loopFrameReceived p) s = .next t
      ∧ t.loop = ((s.afterSymbol p true none).onDir (ringInto p) fun d =>
          if d.buffer.length < 2 then { d with buffer := d.buffer ++ [f] } else d).loop
      ∧ t.notices.roster.length = s.notices.roster.length
      ∧ (∀ r ∈ t.notices.roster, r.number ≠ q.number → r ∈ s.notices.roster)
      ∧ (∀ r ∈ t.notices.roster, r.number = q.number →
          r.state = .present ∧ r.lastSeq = some f.seq ∧ r.absenceDue = some (s.now + 6000000)
          ∧ r.ring = some (ringInto p)
          ∧ (∀ b, Notice.parse f.kind f.body = some (.presence b) →
              r.freshSeen = b.fresh ∧ r.latest = some ⟨b.roles, b.portA, b.portB, b.integrity, b.level⟩)
          ∧ ((∀ b, Notice.parse f.kind f.body ≠ some (.presence b)) → ∃ old ∈ s.notices.roster, old.number = q.number
              ∧ r.freshSeen = old.freshSeen ∧ r.latest = old.latest))
      ∧ t.notices.awaiting = s.notices.awaiting ∧ t.notices.ownSeq = s.notices.ownSeq
      ∧ t.start = s.start ∧ t.memory = s.memory ∧ t.now = s.now ∧ t.manager = s.manager ∧ t.engineer = s.engineer
      ∧ t.panel.replies = s.panel.replies ∧ t.panel.assembler = s.panel.assembler

/-- What an accepted notice does at the block that owns its matter (R37, R103), the peer's roster entry being as
AcceptedNoticeWritesRoster says and its frame placed for repeating. A peer that was ABSENT becomes present in the curtain table (R40,
R98); one that restarts has the epochs of its zones forgotten (R41, R91). A ZONE_STATE and the items of a PRESENCE are adopted by the
tests of R89, an entry that takes CONFIRMED joining the first-alarm order (R96), of one digest in its order (log 21); a CURTAIN notice
and a curtain summary write their entry, but for the own curtain (R97); a PHASE and a PRESENCE's triplet are adopted by R100 and act as
R101 says. Where the adoption ends SHOW isolations, `State.showEnded` (Safety.lean) spells what zones, lines and view become, and that
SERVICE isolations stand (R79, R82); where it ends none, zones, lines and the own view entries stand. An ALERT_ACTION acts at the
zone's owner (R63 to R66); a HOUSE_CMD as the panel's does (R93), as `State.commanded` spells, where a silencing without a first cause
tells SMOKE (log 41); a CURTAIN_REQ, on the own curtain, as the panel's command does under a turned engineer key (R112); a LIGHT_CUE on
the addressed channels (R152); CALL, CALL_CANCEL and CALL_ACK at the dispatcher (R167, R173). Nothing else changes but what the end of
the event may change. That presence, restart and delivery are one event for the order of the reports (log 48), the digest's order
(log 21), the SMOKE cause (log 41) and the rising order in which zones are told (log 46) are the model's. -/
def Obligations.DeliveredNoticesAct : Prop :=
  ∀ (s : Machine.State) (p : Port) (bytes : List Byte) (f : Frame) (q : Peer) (n : Notice),
    (s.loop.port p).frame = some bytes → Frame.ofBytes bytes = some f → s.loop.join = .active → f.hop ≠ 0 →
    f.origin.toNat ≠ s.start.station → s.peer? f.origin.toNat = some q → Notice.parse f.kind f.body = some n →
    q.accepts f.seq (some n) = true → s.Quiet → s.StoreLaw → s.ZoneLaw → s.ViewLaw →
    ∃ t, exec (.loopFrameReceived p) s = .next t
      ∧ let o := f.origin.toNat
        let placed := (s.afterSymbol p true none).onDir (ringInto p) fun d =>
          if d.buffer.length < 2 then { d with buffer := d.buffer ++ [f] } else d
        let base : Machine.State := { placed with notices := { placed.notices with roster := t.notices.roster } }
        -- the zone view and the first-alarm order
        let fresh : Bool :=
          match n with
          | .presence b => b.fresh
          | _ => false
        let view : List ViewEntry := s.house.view.map fun v =>
          if fresh = true ∧ q.freshSeen = false ∧ v.owner = o then { v with epoch := none } else v
        let items : List DigestItem :=
          match n with
          | .presence b => b.digest
          | .zoneState d _ => [d]
          | _ => []
        let takes (d : DigestItem) (v : ViewEntry) : Bool := v.zone == d.zone && v.owner == o &&
          (match v.epoch with
           | none => true
           | some known => decide (1 ≤ (d.epoch - known).toNat ∧ (d.epoch - known).toNat ≤ 127)
              || (v.ownerLost && d.epoch == known))
        let told : List ViewEntry × List Nat := items.foldl (fun h d =>
          (h.1.map fun v =>
            if takes d v = true then ⟨v.zone, v.owner, d.state, d.isolated, some d.epoch, false⟩ else v,
           if h.1.any (fun v => takes d v && v.state != .confirmed) = true ∧ d.state = .confirmed ∧ d.zone ∉ h.2 then
             h.2 ++ [d.zone]
           else h.2)) (view, s.house.firstAlarm)
        -- the curtain table
        let summary : Option CurtainSummary :=
          match n with
          | .presence b => b.summary
          | .curtain m _ => some m
          | _ => none
        let written (c : CurtainEntry) : CurtainEntry :=
          if summary.any (fun m => m.curtain == c.curtain) = true then
            match summary with
            | none => c
            | some m => ⟨c.curtain, o, m.state, m.position, m.proven, m.error, true⟩
          else if q.state = .absent ∧ c.station = o then { c with present := true }
          else c
        -- the show phase record
        let adopts (seq : Half) (origin : Nat) : Bool :=
          decide (1 ≤ (seq - s.house.phaseSeq).toNat ∧ (seq - s.house.phaseSeq).toNat ≤ 32767)
          || (seq == s.house.phaseSeq && decide (s.house.phaseOrigin < origin))
        let phased (ph : Phase) (seq : Half) (origin : Nat) : Prop :=
          (t.house.phase, t.house.phaseSeq, t.house.phaseOrigin) =
            (if adopts seq origin = true then (ph, seq, origin)
             else (s.house.phase, s.house.phaseSeq, s.house.phaseOrigin))
          ∧ (adopts seq origin = true → ph ≠ s.house.phase → ph ≠ .rehearsal → ph ≠ .performance →
              ∀ z ∈ t.zones, ∀ r, z.isolation = some r → r.kind = .service)
        let ends (ph : Phase) : Bool := ph != s.house.phase && ph != .rehearsal && ph != .performance
        let changed (zones : List ZoneRec) (lines : Lines) (view : List ViewEntry) : Machine.State := { base with
          zones := zones
          lines := lines
          house := { base.house with
            view := view
            firstAlarm := told.2
            phase := t.house.phase
            phaseSeq := t.house.phaseSeq
            phaseOrigin := t.house.phaseOrigin } }
        let called (r : Calls × List Report) : Prop :=
          t = State.settledAs base t ∧ t.calls = r.1
          ∧ (q.state = .present → t = State.reporting { base with calls := r.1 } r.2)
        t.house.curtains.length = s.house.curtains.length
        ∧ (∀ c ∈ s.house.curtains, s.gov.curtain = 0 ∨ c.curtain ≠ s.gov.curtain → written c ∈ t.house.curtains)
        ∧ match n with
          | .zoneState _ _ | .curtain _ _ =>
            t = State.settledAs { base with house := { base.house with view := told.1, firstAlarm := told.2 } } t
          | .presence b =>
            phased b.phase b.phaseSeq b.phaseOrigin
            ∧ (∀ v ∈ told.1, v.owner ≠ s.start.station → v ∈ t.house.view)
            ∧ t = State.settledAs (changed t.zones t.lines t.house.view) t
            ∧ (adopts b.phaseSeq b.phaseOrigin = true → ends b.phase = true →
                s.showEnded (changed s.zones s.lines told.1) t)
            ∧ (adopts b.phaseSeq b.phaseOrigin = false ∨ ends b.phase = false →
                t = State.settledAs (changed s.zones s.lines told.1) t)
          | .phase ph seq =>
            phased ph seq o
            ∧ (∀ v ∈ s.house.view, v.owner ≠ s.start.station → v ∈ t.house.view)
            ∧ t = State.settledAs (changed t.zones t.lines t.house.view) t
            ∧ (adopts seq o = true → ends ph = true → s.showEnded (changed s.zones s.lines s.house.view) t)
            ∧ (adopts seq o = false ∨ ph = s.house.phase →
                t = State.settledAs (changed s.zones s.lines s.house.view) t ∧ t.gov = s.gov ∧ t.calls = s.calls)
            ∧ (adopts seq o = true → ph ≠ s.house.phase →
                (ph = .rehearsal ∨ ph = .performance ∨ ∀ z ∈ s.zones, ∀ r, z.isolation = some r → r.kind = .service) →
                t = State.settledAs (changed s.zones s.lines s.house.view) t
                ∧ t.gov = (if ph = .closed ∨ ph = .houseClear then { s.gov with proven := false } else s.gov)
                ∧ t.calls = (match s.definition? ((s.start.profile.phaseCalls[ph.code.toNat]?).getD 0) with
                    | none => s.calls
                    | some d => (s.calls.apply s.house.level s.now s.start.station d).1))
          | .alertAction z a =>
            match s.zone? z with
            | none => t = State.settledAs base t
            | some r =>
              if r.state ≠ .alert then t = State.settledAs base t
              else
                match a with
                | .ack => t = State.settledAs { base with
                    zones := s.zones.map fun x =>
                      if x.number = z ∧ r.acknowledged = false then { r with
                        ackDue := none
                        investigationDue := some (s.now + s.start.profile.investigation * 1000000)
                        acknowledged := true }
                      else x } t
                | .confirm =>
                  let u := base.withZone { r with
                    state := .confirmed, ackDue := none, investigationDue := none, epoch := r.epoch + 1
                    lastCause := some .confirmedByPanel }
                  t = State.settledAs { u with house := { u.house with firstAlarm := t.house.firstAlarm } } t
                  ∧ (z ∈ t.house.firstAlarm ∨ ∃ v, s.view? z = some v ∧ v.state = .confirmed)
                | .cancel =>
                  let lines := s.lines.records.map fun l => if l.kind = .smoke ∧ l.zone = z then l.reevaluate else l
                  t = State.settledAs (State.withZone { base with lines := ⟨lines, s.lines.sampleDue⟩ } { r with
                    state := derivedState lines z r.isolated
                    ackDue := none
                    investigationDue := none
                    acknowledged := false
                    firstCause := none
                    epoch := r.epoch + 1
                    lastCause := some .cancel }) t
          | .houseCmd c _ => s.commanded c base t
          | .curtainReq k a =>
            if s.gov.curtain ≠ k then t = State.settledAs base t ∧ t.gov = s.gov ∧ t.travel = s.travel
            else
              let byPanel : Machine.State := { s with
                engineer := some .on
                start := { s.start with mode := some .normal }
                panel := { Panel.reset with assembler := .hunt } }
              let row : Instr :=
                match a with
                | .lower => .curtainLower 0 (byteOf k)
                | .stop => .curtainStop 0 (byteOf k)
                | .drop => .curtainDrop 0 (byteOf k)
                | .proof => .curtainProof 0 (byteOf k)
                | .clearStatus => .curtainClearStatus 0 (byteOf k)
              ∀ w, exec row byPanel = .next w →
                t.gov = w.gov ∧ t.travel = w.travel ∧ t.house.flags = w.house.flags ∧ t.house.level = w.house.level
                ∧ t = State.settledAs { base with house := { base.house with flags := w.house.flags } } t
          | .lightCue groups a =>
            t = State.settledAs base t
            ∧ t.lights = { s.lights with channels := s.lights.channels.map fun c =>
                if c.inUse = true ∧ groups.getLsbD c.group = true then
                  match a with
                  | .cue target time =>
                    let aim := max c.floor (min target.toNat 1000)
                    if c.override = .none then { c with fade := some ⟨c.level, aim, min time.toNat 6000 * 5, 0, false⟩ }
                    else { c with pending := some ⟨aim, min time.toNat 6000⟩ }
                  | .hold =>
                    if c.override = .none then { c with fade := c.fade.map fun f => { f with held := true } } else c
                  | .resume =>
                    if c.override = .none then { c with fade := c.fade.map fun f => { f with held := false } } else c
                  | .retime time =>
                    if c.override = .none then
                      { c with fade := c.fade.map fun f => ⟨c.level, f.target, min time.toNat 6000 * 5, 0, f.held⟩ }
                    else c
                else c }
          | .call d => called (s.calls.apply s.house.level s.now o d)
          | .callCancel k => called (s.calls.finish s.house.level s.now k .cancelled)
          | .callAck k area => called (s.calls.finish s.house.level s.now k (.answered area))

/-- A repeat (R5, R9, R12, Table 1-4): in GAP, and after an abort mark, the oldest buffered frame is sent with its hop budget one
lower and leaves the buffer, at the present microsecond where two gap fill symbols have been sent, which is the model's choice (log
53); its closing mark, after its bytes and two marks of 10 microseconds each (R2), brings the transmitter back to GAP. What a
transmitter sends at each moment (R2, R9): silence, gap fill, or the frame's opening mark, bytes and closing mark in turn. What the
lines carry (R16, R22): the outgoing line of a port is the station's own transmitter where the relays are energised and the other
port's incoming line elsewhere, and in SELF_TEST each receiver hears the transmitter of its own ring. -/
def Obligations.TransmittersSendSymbols : Prop :=
  (∀ (s : Machine.State) (r : Ring),
    (∀ tx ready f rest, s.loop.dir r = ⟨tx, f :: rest⟩ →
      tx = .gap ready ∨ (∃ g done mark, tx = .sendAbort g done mark ∧ ready = mark + 20) →
      let u := s.elapseTo ready
      exec (.repeatStart r) s = .next (u.onDir r fun _ =>
        ⟨.sendRepeat ⟨f.origin, f.seq, f.hop - 1, f.kind, f.body⟩ (u.now + (f.body.length + 9) * 10), rest⟩))
    ∧ (∀ f done buffer, s.loop.dir r = ⟨.sendRepeat f done, buffer⟩ →
      let u := s.elapseTo done
      exec (.repeatEnd r) s = .next (u.onDir r fun _ => ⟨.gap (u.now + 20), buffer⟩)))
  ∧ (∀ now, Transmitter.sends now .off = none ∧ (Transmitter.off).state now = .off)
  ∧ (∀ now ready, Transmitter.sends now (.gap ready) = some .gapFill ∧ (Transmitter.gap ready).state now = .gap)
  ∧ (∀ (f : Frame) (began now k : Nat), began + 10 * k ≤ now → now < began + 10 * k + 10 →
      let done := began + (f.body.length + 9) * 10
      let symbol : Option Symbol :=
        if k = 0 then some .opening
        else if k < f.body.length + 8 then (f.bytes[k - 1]?).map .data
        else if k = f.body.length + 8 then some .closing
        else some .gapFill
      Transmitter.sends now (.sendRepeat f done) = symbol ∧ (Transmitter.sendRepeat f done).state now = .repeating
      ∧ Transmitter.sends now (.sendInsert f done) = symbol ∧ (Transmitter.sendInsert f done).state now = .inserting)
  ∧ ∀ (l : Loop) (now : Nat) (incoming : Port → Option Symbol),
      (l.join = .active ∨ l.join = .echoTest →
        l.outgoingLine now incoming .b = l.dirAB.tx.sends now ∧ l.outgoingLine now incoming .a = l.dirBA.tx.sends now)
      ∧ (l.join = .bypass ∨ l.join = .selfTest →
        l.outgoingLine now incoming .b = incoming .a ∧ l.outgoingLine now incoming .a = incoming .b)
      ∧ (l.join = .selfTest →
        l.heardLine now incoming .a = l.dirAB.tx.sends now ∧ l.heardLine now incoming .b = l.dirBA.tx.sends now)
      ∧ (l.join ≠ .selfTest → ∀ p, l.heardLine now incoming p = incoming p)

/-- An insertion (R5, R11, R13, R27, R32): in ACTIVE or SELF_TEST, in GAP with an empty repeat buffer and the outgoing port UP, the
first queued entry that does not count as inserted on the ring is sent as a frame of this station with hop budget 63; at its first
insertion it takes the own sequence counter's value, which advances. At its closing mark the entry that holds the sequence is marked,
entries inserted on both rings leave, and the awaiting-return list records the frame; where the list holds 16, the entry with the
earliest send time is first removed, of several the one made first (log 38). In SELF_TEST the receiver of the ring's upstream port
has then heard the frame up to its closing mark, and a new insertion waits for that mark (R22, log 43). An opening mark on the
upstream port of a direction that inserts with two frames buffered aborts the insertion (R12): the symbol in course is sent out, its
own closing mark too, and the abort mark is the next (log 42), the transmitter is in INSERT until that mark has been sent and then in
GAP, the buffered frames stay, and the entry is not marked. That an insertion begins at the present microsecond where its conditions
come to hold within a gap fill symbol is the model's choice (log 53). That INSERTION_ABORT is that opening mark is log 25. -/
def Obligations.InsertionSendsOrAborts : Prop :=
  ∀ (s : Machine.State) (r : Ring),
    (∀ tx ready e, s.loop.join = .active ∨ s.loop.join = .selfTest → s.loop.dir r = ⟨tx, []⟩ →
      tx = .gap ready ∨ (∃ g done mark, tx = .sendAbort g done mark ∧ ready = mark + 20) →
      (s.loop.join = .selfTest → (s.loop.port (upstreamPort r)).frame = none) →
      (s.loop.port (outgoingPort r)).state = .up →
      s.notices.queue.find? (fun e => !e.countsOn s.loop r) = some e →
      let u := s.elapseTo ready
      let seq := e.seq.getD s.notices.ownSeq
      let f : Frame := ⟨byteOf s.start.station, seq, 63, e.notice.kindCode, e.notice.body⟩
      exec (.insertionStart r) s = .next
        ({ u with notices :=
          if e.seq.isSome then u.notices
          else { u.notices with
            queue := u.notices.queue.map fun (x : TxEntry) => if x.age = e.age then { x with seq := some s.notices.ownSeq } else x
            ownSeq := s.notices.ownSeq + 1 } }.onDir r fun _ =>
          ⟨.sendInsert f (u.now + (f.body.length + 9) * 10), []⟩))
    ∧ (∀ f done buffer, s.loop.dir r = ⟨.sendInsert f done, buffer⟩ →
      let u := (s.elapseTo done).onDir r fun _ => ⟨.gap ((s.elapseTo done).now + 20), buffer⟩
      let v : Machine.State :=
        if s.loop.join = .selfTest then u.onPort (upstreamPort r) fun p =>
          { p with silenceDue := u.now + 20000, frame := some f.bytes }
        else u
      let new : Awaiting := Awaiting.setSent ⟨f.seq, u.now, false, false, false, false⟩ r
      let completed (awaiting : List Awaiting) : Prop :=
        exec (.insertionComplete r) s = .next { v with notices := { v.notices with
          queue := (v.notices.queue.map fun (e : TxEntry) => if e.seq = some f.seq then e.mark r else e).filter fun e =>
            !(e.countsOn v.loop .ab && e.countsOn v.loop .ba)
          awaiting := awaiting } }
      (s.notices.awaiting.any (fun a => a.seq == f.seq) = true →
        completed (s.notices.awaiting.map fun (a : Awaiting) =>
          if a.seq = f.seq then { a.setSent r with sendTime := u.now } else a))
      ∧ (s.notices.awaiting.any (fun a => a.seq == f.seq) = false →
        (s.notices.awaiting.length < 16 → completed (s.notices.awaiting ++ [new]))
        ∧ ∀ before a after, s.notices.awaiting = before ++ a :: after → 16 ≤ s.notices.awaiting.length →
            (∀ b ∈ before, a.sendTime < b.sendTime) → (∀ b ∈ after, a.sendTime ≤ b.sendTime) →
            completed (before ++ after ++ [new])))
    ∧ (∀ f done buffer, s.Quiet → s.loop.join ≠ .selfTest → s.loop.dir r = ⟨.sendInsert f done, buffer⟩ → 2 ≤ buffer.length →
      let began := done - (f.body.length + 9) * 10
      let mark := began + (s.now - began + 9) / 10 * 10 + 10
      let tx : Transmitter := .sendAbort f done mark
      let t := (s.afterSymbol (upstreamPort r) true (some [])).onDir r fun _ => ⟨tx, buffer⟩
      exec (.insertionAbort r) s = .next t ∧ exec (.loopSymbolReceived (upstreamPort r) .opening) s = .next t
      ∧ (∀ now, now < mark → tx.state now = .inserting) ∧ (∀ now, mark ≤ now → tx.state now = .gap)
      ∧ (∀ now, mark ≤ now + 10 → now < mark → tx.sends now = some .abort)
      ∧ (∀ now, mark ≤ now → tx.sends now = some .gapFill))

/-- LOOP_TEST by join state (Table 1-7, R20 to R23), taken at once: refused with LOOP_BUSY, accepted without a change, or
accepted with a change of join state, which is reported. ECHO_TEST aborts insertions in progress, each with an abort mark as its
next symbol (log 42), and keeps the repeat buffers; SELF_TEST empties the buffers, puts both transmitters in GAP, two gap fill symbols
ahead of a frame whatever they sent before (the model's choice, log 52), and discards frames in progress; OFF brings BYPASS, with join
counts 0, silence timers and the lone-start timer restarted, and port states kept. -/
def Obligations.LoopTestTable : Prop :=
  ∀ (s : Machine.State) (tag : Byte), s.Ready → s.Quiet →
    let busy := s.replying tag 25 (.refused .loopBusy) .none
    let same := s.replying tag 25 .accepted .none
    let into (l : Loop) : Machine.State :=
      State.reporting (State.replying { s with loop := l } tag 25 .accepted .none) [.loopJoin l.join]
    let cut (d : Direction) : Direction :=
      match d.tx with
      | .sendInsert f done =>
        let began := done - (f.body.length + 9) * 10
        ⟨.sendAbort f done (began + (s.now - began + 9) / 10 * 10 + 10), d.buffer⟩
      | _ => d
    let self : Loop := { s.loop with
      join := .selfTest, dirAB := ⟨.gap (s.now + 20), []⟩, dirBA := ⟨.gap (s.now + 20), []⟩,
      portA := { s.loop.portA with frame := none }, portB := { s.loop.portB with frame := none } }
    let fresh (p : PortRec) : PortRec := ⟨p.state, s.now + 20000, 0, none⟩
    let off : Loop := ⟨.bypass, fresh s.loop.portA, fresh s.loop.portB, ⟨.off, []⟩, ⟨.off, []⟩, some (s.now + 500000)⟩
    (exec (.loopTestEcho tag) s = .next (match s.loop.join with
      | .bypass => busy
      | .active => into { s.loop with join := .echoTest, dirAB := cut s.loop.dirAB, dirBA := cut s.loop.dirBA }
      | .echoTest => same
      | .selfTest => busy))
    ∧ (exec (.loopTestSelf tag) s = .next (match s.loop.join with
      | .bypass => busy
      | .active => into self
      | .echoTest => into self
      | .selfTest => same))
    ∧ (exec (.loopTestOff tag) s = .next (match s.loop.join with
      | .bypass => same
      | .active => same
      | .echoTest => into off
      | .selfTest => into off))

/-! ### The notice unit (chapter 2) -/

/-- A return limit (R34, R35): the entry is removed; where a ring was sent, has not returned and its outgoing port is UP, and
integrity is CLOSED, integrity turns OPEN, LOOP_OPEN is set and the house level is at least 1; otherwise integrity stays. The
absence timer of a PRESENT peer (R39, R90, R98): the entry becomes ABSENT with no last sequence and its fresh-seen mark
clear, its latest presence kept; every zone it owns takes the owner-lost flag, and FAULT unless CONFIRMED or SILENCED; its
curtain entries are no longer present. That the delivering ring is kept and the absence timer stopped is the model's reading
(log 39). -/
def Obligations.ReturnsAndPeersExpire : Prop :=
  (∀ (s : Machine.State) (seq : Byte) (a : Awaiting), s.Quiet → s.LightLaw →
      s.notices.awaiting.find? (fun a => a.seq == seq) = some a →
      let u := s.elapseTo (a.sendTime + 100000)
      let v : Machine.State :=
        { u with notices := { u.notices with awaiting := u.notices.awaiting.filter fun b => b.seq != seq } }
      let missed : Prop :=
        (a.sentAB = true ∧ a.returnedAB = false ∧ s.loop.portB.state = .up)
        ∨ (a.sentBA = true ∧ a.returnedBA = false ∧ s.loop.portA.state = .up)
      (¬ missed ∨ s.notices.integrity = .broken → exec (.returnLimitExpiry seq) s = .next v)
      ∧ (missed → s.notices.integrity = .whole →
          ∃ t, exec (.returnLimitExpiry seq) s = .next t
            ∧ t = { v with
              notices := { v.notices with integrity := .broken }
              house := { v.house with
                flags := { v.house.flags with loopOpen := true }
                level := max 1 s.house.level }
              calls := { t.calls with library := v.calls.library }
              panel := { v.panel with reports := t.panel.reports, overflow := t.panel.overflow } }))
  ∧ ∀ (s : Machine.State) (n due : Nat) (q : Peer), s.peer? n = some q → q.state = .present → q.absenceDue = some due →
      n ≠ s.start.station → s.StoreLaw →
      ∃ t, exec (.absenceTimerExpiry n) s = .next t
        ∧ t = State.settledAs (
            let u := s.elapseTo due
            { u with
              notices := { u.notices with roster := u.notices.roster.map fun p =>
                if p.number = n then
                  { p with state := .absent, lastSeq := none, absenceDue := none, freshSeen := false }
                else p }
              house := { u.house with view := u.house.view.map fun v =>
                if v.owner = n then
                  { v with
                    state := if v.state = .confirmed ∨ v.state = .silenced then v.state else .fault
                    ownerLost := true }
                else v } }) t
        ∧ (∀ c ∈ t.house.curtains, c.station = n → c.present = false)

/-- A round (R42, R43): the round count rises to at most 4, the next round is due 2,000 ms after this one, and the PRESENCE
built from the state is offered to the transmit queue, FRESH at the first three rounds. -/
def Obligations.RoundOffersPresence : Prop :=
  ∀ (s : Machine.State) (due : Nat), s.notices.roundDue = some due →
    let u := s.elapseTo due
    let count := min 4 (s.notices.roundCount + 1)
    let ns : Notices := { u.notices with roundCount := count, roundDue := some (due + 2000000) }
    let own : Option CurtainSummary :=
      if s.gov.curtain = 0 then none
      else some ⟨s.gov.curtain, s.gov.state, s.travel.accumulator / 1000, s.gov.proven, s.gov.error⟩
    let p : Presence :=
      { roles := ⟨s.gov.curtain, (s.lines.records.filter fun l => l.kind != .unused).length,
          (s.lights.channels.filter LightChannel.inUse).length, (s.calls.channels.filter DispatchChannel.inUse).length⟩
        portA := s.loop.portA.state
        portB := s.loop.portB.state
        integrity := s.notices.integrity
        level := s.house.level
        phase := s.house.phase
        phaseSeq := s.house.phaseSeq
        phaseOrigin := s.house.phaseOrigin
        fresh := count ≤ 3
        digest := s.zones.map fun z => ⟨z.number, z.state, z.isolated, z.epoch⟩
        summary := own }
    exec .presenceRound s = .next { u with notices := (ns.offer u.loop (.presence p)).getD ns }


/-- The transmit queue and a notice offered to it (R30, R31): a queue refuses a notice exactly when it holds 16 entries, none the
notice merges with, and none of a lower notice level. A notice that merges takes the place of the queued one, which keeps its age
stamp, and is sent afresh on both rings. Another joins with the next age stamp, all others standing; in a full queue the youngest
entry of the lowest level is displaced. The ages are first renumbered in their order where the next stamp is 65,535 (log 16).
Entries that count as inserted on both rings leave (R14). -/
def Obligations.TransmitQueueTakesNotice : Prop :=
  ∀ (ns : Notices) (l : Loop) (n : Notice),
    let stays (q : List TxEntry) := q.filter fun e => !(e.countsOn l .ab && e.countsOn l .ba)
    let merges : Prop := ∃ e ∈ ns.queue, n.mergesWith e.notice = true
    let joined (after : Notices) (base : List TxEntry) : Prop :=
      if ns.nextAge < 65535 then
        after.queue.Perm (stays (⟨n, ns.nextAge, none, false, false⟩ :: base)) ∧ after.nextAge = ns.nextAge + 1
      else
        after.queue.Perm (stays (⟨n, base.length, none, false, false⟩ :: base.map fun e =>
          { e with age := (base.filter fun f => f.age < e.age).length })) ∧ after.nextAge = base.length + 1
    (ns.offer l n = none ↔ 16 ≤ ns.queue.length ∧ ∀ e ∈ ns.queue, n.mergesWith e.notice = false ∧ n.level ≤ e.notice.level)
    ∧ ∀ after, ns.offer l n = some after →
        (l.portA.state = .up ∨ l.portB.state = .up → ∃ e ∈ after.queue, e.notice = n ∧ e.seq = none ∧ e.onAB = false ∧ e.onBA = false)
        ∧ (l.portA.state = .down → l.portB.state = .down → after.queue = [])
        ∧ (merges → after.nextAge = ns.nextAge ∧ after.queue.Perm (stays (ns.queue.map fun e =>
            if n.mergesWith e.notice = true then ⟨n, e.age, none, false, false⟩ else e)))
        ∧ (¬merges → ns.queue.length < 16 → joined after ns.queue)
        ∧ (¬merges → 16 ≤ ns.queue.length → ∃ d ∈ ns.queue, d.notice.level < n.level
            ∧ (∀ e ∈ ns.queue, d.notice.level ≤ e.notice.level)
            ∧ (∀ e ∈ ns.queue, e.notice.level = d.notice.level → e.age ≤ d.age)
            ∧ joined after (ns.queue.filter fun e => !(e.notice.level == d.notice.level && e.age == d.age)))
        ∧ after.awaiting = ns.awaiting ∧ after.roster = ns.roster ∧ after.ownSeq = ns.ownSeq
        ∧ after.commandSeq = ns.commandSeq ∧ after.integrity = ns.integrity ∧ after.roundCount = ns.roundCount
        ∧ after.roundDue = ns.roundDue

/-! ### Detector lines and zones (chapter 3) -/

/-- A sample of one line (R46, R48, R49, R50) and its re-evaluation (R51): the class by Table 3-1, the run counter, the state
that follows a class that has persisted, and the latch of an unmasked line that becomes ALARM. What a zone takes from its lines: the
derived quiet state (R55), which a zone in a quiet state with an empty alarmed set takes and every other zone does not, and the
cause of a change between quiet states (R56). -/
def Obligations.LineFollowsPersistentClass : Prop :=
  (∀ (k : LineKind) (r : Byte), k ≠ .unused → lineClass k r =
      if r.toNat ≤ 7 then .faultOpen
      else if 248 ≤ r.toNat then .faultShort
      else if 160 ≤ r.toNat then .alarm
      else if 96 ≤ r.toNat ∧ k = .smoke then .preAlarm
      else .normal)
  ∧ (∀ (l : LineRec) (masked : Bool) (r : Byte), l.kind = .unused → l.sample masked r = { l with reading := some r })
  ∧ (∀ (l : LineRec) (masked : Bool) (r : Byte), l.kind ≠ .unused →
      let c := lineClass l.kind r
      let run := if ∃ old, l.reading = some old ∧ lineClass l.kind old = c then min 3 (l.run + 1) else 1
      let persisted := (if l.kind = .manual ∧ c = .alarm then 2 else 3) ≤ run
      let follows := l.latched = false ∧ persisted
      l.sample masked r = { l with
        reading := some r
        run := run
        state := if follows then c else l.state
        latched := l.latched || decide (follows ∧ l.state ≠ .alarm ∧ c = .alarm ∧ masked = false) })
  ∧ (∀ (l : LineRec), l.kind ≠ .unused → l.reevaluate = { l with
      run := 0
      latched := false
      state :=
        match l.reading with
        | none => .normal
        | some r =>
          if lineClass l.kind r = .alarm then (if l.kind = .smoke then .preAlarm else .normal) else lineClass l.kind r })
  ∧ (∀ (lines : List LineRec) (z : Nat) (isolated : Bool),
      let mine (l : LineRec) : Prop := l.kind ≠ .unused ∧ l.zone = z ∧ ¬(l.kind = .smoke ∧ isolated = true)
      ((∃ l ∈ lines, mine l ∧ l.state = .preAlarm) → derivedState lines z isolated = .preAlarm)
      ∧ ((¬∃ l ∈ lines, mine l ∧ l.state = .preAlarm) → (∃ l ∈ lines, mine l ∧ (l.state = .faultOpen ∨ l.state = .faultShort)) →
          derivedState lines z isolated = .fault)
      ∧ ((¬∃ l ∈ lines, mine l ∧ (l.state = .preAlarm ∨ l.state = .faultOpen ∨ l.state = .faultShort)) →
          derivedState lines z isolated = .quiet)
      ∧ ∀ r : ZoneRec, r.number = z →
          ((r.state = .quiet ∨ r.state = .fault ∨ r.state = .preAlarm) → (¬∃ l ∈ lines, mine l ∧ l.state = .alarm) →
            r.rederived lines isolated = derivedState lines z isolated)
          ∧ (r.state = .alert ∨ r.state = .confirmed ∨ r.state = .silenced ∨ (∃ l ∈ lines, mine l ∧ l.state = .alarm) →
            r.rederived lines isolated = r.state))
  ∧ (∀ st, quietCause st st = .fault)
  ∧ quietCause .quiet .preAlarm = .smoke ∧ quietCause .fault .preAlarm = .smoke ∧ quietCause .preAlarm .quiet = .smoke
  ∧ quietCause .preAlarm .fault = .fault ∧ quietCause .quiet .fault = .fault ∧ quietCause .fault .quiet = .fault

/-- LINE_SAMPLE (R47): every line is sampled, a line masked where its zone is isolated (R52), and the next sample is due 250 ms
later; then each owned zone with changed lines moves (R55 to R60): derived where no line joined its alarmed set, and otherwise by
Tables 3-3 and 3-4. A zone that moved has its epoch advanced by one and its view entry told (R70, R88); every other zone
and view entry stands. The calls are as a new level and a forced DROPPING leave them (R123, R129, R178); what is offered and reported
of the zones that moved is EveryChangeIsTold, and that they are told in rising order is the model's choice (log 46). -/
def Obligations.LineSampleMovesZones : Prop :=
  ∀ (s : Machine.State) (readings : Vector Byte 32) (due : Nat), s.lines.sampleDue = some due →
    (s.zones.map ZoneRec.number).Nodup →
    ∃ t, exec (.lineSample readings) s = .next t
      ∧ let u := s.elapseTo due
        let masked (l : LineRec) : Bool := l.kind == .smoke && s.zones.any fun z => z.number == l.zone && z.isolated
        let pairs := s.lines.records.map fun l => (l, l.sample (masked l) (readingOf readings l.number))
        let changed := pairs.filter fun c => c.1.state ≠ c.2.state ∨ c.1.latched ≠ c.2.latched
        let after (z : ZoneRec) : ZoneRec :=
          let mine := changed.filter fun c => c.2.kind ≠ .unused ∧ c.2.zone = z.number
          let joined := mine.filter fun c =>
            c.1.state ≠ .alarm ∧ c.2.state = .alarm ∧ ¬(c.2.kind = .smoke ∧ z.isolated = true)
          let live := (joined.find? fun c => c.2.kind ≠ .smoke).map fun c =>
            if c.2.kind = .heat then Cause.heat else .manual
          let told (w : ZoneRec) (cause : Cause) : ZoneRec := { w with epoch := z.epoch + 1, lastCause := some cause }
          if mine = [] then z
          else if joined = [] then
            let st := derivedState t.lines.records z.number z.isolated
            if z.state.isQuiet = true ∧ alarmedSet t.lines.records z.number z.isolated = [] ∧ st ≠ z.state then
              told { z with state := st } (if st ≠ .fault ∧ (st = .preAlarm ∨ z.state = .preAlarm) then .smoke else .fault)
            else z
          else
            match z.state with
            | .confirmed => z
            | .alert =>
              told { z with state := .confirmed, ackDue := none, investigationDue := none } (live.getD .coincidence)
            | .silenced => told { z with state := .confirmed } (live.getD .smoke)
            | _ =>
              match live with
              | some cause => told { z with state := .confirmed, firstCause := some cause } cause
              | none =>
                if 2 ≤ joined.length then
                  told { z with state := .confirmed, firstCause := some .coincidence } .coincidence
                else if z.investigable = true ∧ s.house.phase ≠ .closed ∧ s.house.phase ≠ .houseClear then
                  told { z with
                    state := .alert
                    firstCause := some .smoke
                    acknowledged := false
                    ackDue := some (u.now + s.start.profile.ackWindow * 1000000) } .smoke
                else told { z with state := .confirmed, firstCause := some .notInvestigable } .notInvestigable
        t.lines = ⟨pairs.map Prod.snd, some (due + 250000)⟩
        ∧ t.zones = s.zones.map after
        ∧ (∀ v ∈ t.house.view, (∀ z ∈ s.zones, z.number = v.zone → after z = z) → v ∈ s.house.view)
        ∧ (∀ v ∈ t.house.view, ∀ z ∈ s.zones, z.number = v.zone → after z ≠ z → v.tells (after z))
        ∧ t.calls = u.callsAfter t.house.level (u.forcesDrop t.house.level)
        ∧ t = State.settledAs { u with
            lines := t.lines
            zones := t.zones
            house := { u.house with view := t.house.view, firstAlarm := t.house.firstAlarm } } t

/-- The ack window timer and the investigation timer of a zone in ALERT (R61): the zone becomes CONFIRMED with cause ACK_EXPIRY
or INVESTIGATION_EXPIRY, its epoch advances by one, and its view entry is told; the house level is then 5 (R71, R95) and the
zone stands in the first-alarm order (R96); the calls are as that level and a DROPPING it forces leave them (R123, R129, R178). That a
timer that does not run changes nothing is log 3. -/
def Obligations.ExpiryConfirmsZone : Prop :=
  ∀ (s : Machine.State) (zone due : Nat) (r : ZoneRec), s.zone? zone = some r → r.state = .alert →
    let u := s.elapseTo due
    let confirmed (w : ZoneRec) (t : Machine.State) : Prop :=
      t = State.settledAs { u.withZone w with
            house := { (u.withZone w).house with firstAlarm := t.house.firstAlarm } } t
      ∧ t.calls = u.callsAfter t.house.level (u.forcesDrop t.house.level)
      ∧ ∀ v, s.view? zone = some v → t.house.level = 5
          ∧ t.house.firstAlarm =
              if v.state = .confirmed ∨ zone ∈ s.house.firstAlarm then s.house.firstAlarm
              else s.house.firstAlarm ++ [zone]
    (r.ackDue = some due → ∃ t, exec (.ackWindowExpiry zone) s = .next t
      ∧ confirmed { r with state := .confirmed, ackDue := none, epoch := r.epoch + 1, lastCause := some .ackExpiry } t)
    ∧ (r.investigationDue = some due → ∃ t, exec (.investigationExpiry zone) s = .next t
      ∧ confirmed { r with
          state := .confirmed, investigationDue := none, epoch := r.epoch + 1, lastCause := some .investigationExpiry } t)
    ∧ (r.ackDue = none → exec (.ackWindowExpiry zone) s = .next s)
    ∧ (r.investigationDue = none → exec (.investigationExpiry zone) s = .next s)

/-- ACK_ALERT, CONFIRM_ALERT and CANCEL_ALERT of a zone this station owns, taken at once (R63 to R66): in ALERT, ACK stops the
ack window and starts the investigation timer, CONFIRM confirms, and CANCEL re-evaluates the zone's SMOKE lines and releases the
zone to the state its lines give; in every other state each is refused. After CONFIRM and CANCEL the calls are as a new level and a
forced DROPPING leave them (R123, R129, R178). -/
def Obligations.AlertActionsAtOwner : Prop :=
  ∀ (s : Machine.State) (tag zone : Byte) (r : ZoneRec), s.Ready → s.Quiet → s.zoneKnown zone.toNat = true →
    s.zone? zone.toNat = some r →
    (r.state = .alert →
      exec (.ackAlert tag zone) s = .next (
        if r.acknowledged = true then s.replying tag 2 .accepted .none
        else State.reporting { s.replying tag 2 .accepted .none with
          zones := s.zones.map fun x =>
            if x.number = r.number then { r with
              ackDue := none
              investigationDue := some (s.now + s.start.profile.investigation * 1000000)
              acknowledged := true }
            else x } [.zoneAck r.number .alert true])
      ∧ (∃ t, exec (.confirmAlert tag zone) s = .next t
          ∧ let w : ZoneRec := { r with
              state := .confirmed, ackDue := none, investigationDue := none, epoch := r.epoch + 1
              lastCause := some .confirmedByPanel }
            let v := State.withZone (s.replying tag 3 .accepted .none) w
            t = State.settledAs { v with house := { v.house with firstAlarm := t.house.firstAlarm } } t
            ∧ t.calls = s.callsAfter t.house.level (s.forcesDrop t.house.level)
            ∧ ∀ x, s.view? zone.toNat = some x →
                t.house.level = 5 ∧ (zone.toNat ∈ t.house.firstAlarm ∨ x.state = .confirmed))
      ∧ (∃ t, exec (.cancelAlert tag zone) s = .next t
          ∧ let lines := s.lines.records.map fun l =>
              if l.kind = .smoke ∧ l.zone = r.number then l.reevaluate else l
            t = State.settledAs (State.withZone
              { s.replying tag 4 .accepted .none with lines := ⟨lines, s.lines.sampleDue⟩ }
              { r with
                state := derivedState lines r.number r.isolated
                ackDue := none
                investigationDue := none
                acknowledged := false
                firstCause := none
                epoch := r.epoch + 1
                lastCause := some .cancel }) t
            ∧ t.calls = s.callsAfter t.house.level (s.forcesDrop t.house.level)))
    ∧ (r.state ≠ .alert →
      exec (.ackAlert tag zone) s = .next (s.replying tag 2
        (.refused (if r.state = .confirmed ∧ r.lastCause = some .ackExpiry then .tooLate else .zoneState)) .none)
      ∧ exec (.confirmAlert tag zone) s = .next (s.replying tag 3 (.refused .zoneState) .none)
      ∧ exec (.cancelAlert tag zone) s = .next (s.replying tag 4 (.refused .zoneState) .none))

/-- A panel command whose matter another station owns, taken at once (R63, R109, R31): an alert action on a zone of another
station, and a curtain command but RAISE and RESUME on a curtain another station holds, goes to the transmit queue, which
forwards it or refuses it with LOOP_BUSY. Zones and curtains that are not known are refused. -/
def Obligations.OthersMattersAreForwarded : Prop :=
  ∀ (s : Machine.State) (tag : Byte), s.Ready → s.Quiet →
    let forward (kind : Byte) (n : Notice) : Machine.State :=
      match s.notices.offer s.loop n with
      | some ns => State.replying { s with notices := ns } tag kind .forwarded .none
      | none => s.replying tag kind (.refused .loopBusy) .none
    (∀ (zone : Byte) (a : AlertAction),
      let row : Instr :=
        match a with
        | .ack => .ackAlert tag zone
        | .confirm => .confirmAlert tag zone
        | .cancel => .cancelAlert tag zone
      (s.zoneKnown zone.toNat = false → exec row s = .next (s.replying tag a.kindCode (.refused .unknownZone) .none))
      ∧ (s.zoneKnown zone.toNat = true → s.zone? zone.toNat = none →
          exec row s = .next (forward a.kindCode (.alertAction zone.toNat a))))
    ∧ (∀ (n : Byte) (a : CurtainAction),
      let row : Instr :=
        match a with
        | .lower => .curtainLower tag n
        | .stop => .curtainStop tag n
        | .drop => .curtainDrop tag n
        | .proof => .curtainProof tag n
        | .clearStatus => .curtainClearStatus tag n
      (n.toNat < 1 ∨ 4 < n.toNat →
        exec (.curtainRaise tag n) s = .next (s.replying tag 10 (.refused .badArgument) .none)
        ∧ exec (.curtainResume tag n) s = .next (s.replying tag 11 (.refused .badArgument) .none)
        ∧ exec row s = .next (s.replying tag a.kindCode (.refused .badArgument) .none))
      ∧ (1 ≤ n.toNat → n.toNat ≤ 4 → s.gov.curtain ≠ n.toNat →
        exec (.curtainRaise tag n) s = .next (s.replying tag 10 (.refused .noCurtain) .none)
        ∧ exec (.curtainResume tag n) s = .next (s.replying tag 11 (.refused .noCurtain) .none)
        ∧ ((∀ c, s.curtain? n.toNat = some c → c.station = 0) →
            exec row s = .next (s.replying tag a.kindCode (.refused .noCurtain) .none))
        ∧ (∀ c, s.curtain? n.toNat = some c → c.station ≠ 0 → exec row s = .next (
            if a = .clearStatus ∧ s.engineerTurned = false then s.replying tag a.kindCode (.refused .keyRequired) .none
            else forward a.kindCode (.curtainReq n.toNat a)))))

/-! ### Keys and isolations (chapter 4) -/

/-- A key position read steadily (R76, R83). The manager key, an engineer key that neither reaches nor leaves SUSPEND, and the first
position an engineer key is read in after a reset, which is not a change, change that position alone. An engineer key that reaches
SUSPEND suspends every isolation: the isolated attribute is cleared, the zone's unlatched SMOKE lines are re-evaluated (R51, R74) and
its state derived (R75). One that leaves SUSPEND brings every isolation back into force. An isolation made before a first position of
SUSPEND stays in force under it, which is the model's reading (log 17): a key that then leaves SUSPEND finds its zone isolated, and
the zone stands. -/
def Obligations.KeysMove : Prop :=
  ∀ (s : Machine.State),
    (∀ k, exec (.managerKeyChange k) s = .next { s with manager := some k })
    ∧ (∀ k, s.Quiet → s.engineer = none ∨ (s.suspended = true ↔ k = .suspend) →
        exec (.engineerKeyChange k) s = .next { s with engineer := some k })
    ∧ (∀ k, s.ZoneLaw → s.ViewLaw → s.engineer ≠ none → ¬(s.suspended = true ↔ k = .suspend) →
        ∃ t, exec (.engineerKeyChange k) s = .next t
          ∧ let held (z : ZoneRec) : Bool := z.isolation.isSome && z.isolated == (k == .suspend)
            let lines :=
              if k = .suspend then s.lines.records.map fun l =>
                if l.kind = .smoke ∧ l.latched = false ∧ (s.zones.any fun z => z.number == l.zone && held z) = true then
                  l.reevaluate
                else l
              else s.lines.records
            let after (z : ZoneRec) : ZoneRec :=
              if held z = true then
                let st := z.rederived lines (k != .suspend)
                { z with
                  state := st
                  isolated := k != .suspend
                  epoch := z.epoch + 1
                  lastCause := some (quietCause z.state st) }
              else z
            t = State.settledAs { s with
              engineer := some k
              lines := ⟨lines, s.lines.sampleDue⟩
              zones := s.zones.map after
              house := { s.house with view := t.house.view } } t
            ∧ (∀ v ∈ t.house.view, (∀ z ∈ s.zones, z.number = v.zone → held z = false) → v ∈ s.house.view)
            ∧ (∀ v ∈ t.house.view, ∀ z ∈ s.zones, z.number = v.zone → v.tells (after z)))

/-- ISOLATE, taken at once, with the checks of Table 4-1 in order (R77), and what an accepted one makes (R78, R81): a record
with its minutes clamped into 1 to 240 and its warned flag set where they are 5 or fewer. A first isolation, with the engineer
key outside SUSPEND, sets the isolated attribute (R74, R75). That HOUSE_LEVEL is answered before ZONE_STATE for a zone in ALERT or
CONFIRMED, by the check order of R77 and against row 4 of Table 4-2 (R84), is the model's reading (log 47). -/
def Obligations.IsolateFollowsTable : Prop :=
  ∀ (s : Machine.State) (tag zone kind : Byte) (minutes : Option Half), s.Ready → s.Quiet → s.ZoneLaw →
    let known : Prop := 1 ≤ zone.toNat ∧ zone.toNat ≤ 48 ∧ s.start.profile.owner zone.toNat ≠ 0
    let refused (why : Reason) : Prop :=
      exec (.isolate tag zone kind minutes) s = .next (s.replying tag 8 (.refused why) .none)
    (1 < kind.toNat ∨ (kind = 1 ∧ minutes = none) → refused .badArgument)
    ∧ (kind.toNat ≤ 1 → (kind = 1 → minutes ≠ none) →
      (¬known → refused .unknownZone)
      ∧ (known → s.zone? zone.toNat = none → refused .notOwner)
      ∧ (known → ∀ z, s.zone? zone.toNat = some z →
        if (if kind = 1 then s.engineerTurned else s.managerTurned) = false then refused .keyRequired
        else if kind = 0 ∧ s.house.phase ≠ .rehearsal ∧ s.house.phase ≠ .performance then refused .phase
        else if 3 ≤ s.house.level then refused .houseLevel
        else if z.state = .alert ∨ z.state = .confirmed ∨ z.state = .silenced then refused .zoneState
        else ∃ t, exec (.isolate tag zone kind minutes) s = .next t
          ∧ let clamped := minutes.map fun m => max 1 (min m.toNat 240)
            let r : IsolationRec := ⟨if kind = 1 then .service else .show,
              clamped.map fun m => s.now + m * 60000000, clamped.any fun m => m ≤ 5⟩
            let v := s.replying tag 8 .accepted .none
            if z.isolation = none ∧ s.suspended = false then
              let st := z.rederived s.lines.records true
              t = State.settledAs (v.withZone { z with
                state := st
                isolated := true
                isolation := some r
                epoch := z.epoch + 1
                lastCause := some (quietCause z.state st) }) t
            else
              t = State.settledAs { v with
                zones := s.zones.map fun x => if x.number = z.number then { z with isolation := some r } else x } t))

/-- The end of an isolation by DEISOLATE, taken at once (R80), and by the expiry of its remaining time (R79, R81): the record
goes; where it was in force the isolated attribute is cleared, the zone's unlatched SMOKE lines are re-evaluated and its state
derived (R51, R74, R75). The expiry warning sets the warned flag and makes its report (R81, R85). -/
def Obligations.IsolationEnds : Prop :=
  ∀ (s : Machine.State) (zone : Byte), s.ViewLaw →
    let ended (u : Machine.State) (z : ZoneRec) (t : Machine.State) : Prop :=
      if z.isolated = true then
        let lines := u.lines.records.map fun l =>
          if l.kind = .smoke ∧ l.latched = false ∧ l.zone = z.number then l.reevaluate else l
        let st := z.rederived lines false
        t = State.settledAs (State.withZone { u with lines := ⟨lines, u.lines.sampleDue⟩ } { z with
          state := st
          isolated := false
          isolation := none
          epoch := z.epoch + 1
          lastCause := some (quietCause z.state st) }) t
      else
        t = State.settledAs { u with
          zones := u.zones.map fun x => if x.number = z.number then { z with isolation := none } else x } t
    let known : Prop := 1 ≤ zone.toNat ∧ zone.toNat ≤ 48 ∧ s.start.profile.owner zone.toNat ≠ 0
    (∀ tag, s.Ready → s.Quiet →
      (¬known → exec (.deisolate tag zone) s = .next (s.replying tag 9 (.refused .unknownZone) .none))
      ∧ (known → s.zone? zone.toNat = none →
          exec (.deisolate tag zone) s = .next (s.replying tag 9 (.refused .notOwner) .none))
      ∧ (known → ∀ z, s.zone? zone.toNat = some z →
          (z.isolation = none → exec (.deisolate tag zone) s = .next (s.replying tag 9 .accepted .none))
          ∧ (∀ r, z.isolation = some r →
              if (if r.kind = .service then s.engineerTurned else s.managerTurned) = false then
                exec (.deisolate tag zone) s = .next (s.replying tag 9 (.refused .keyRequired) .none)
              else ∃ t, exec (.deisolate tag zone) s = .next t ∧ ended (s.replying tag 9 .accepted .none) z t)))
    ∧ (∀ z r due, s.zone? zone.toNat = some z → z.isolation = some r → r.expiry = some due →
        (∃ t, exec (.isolationExpiry zone.toNat) s = .next t ∧ ended (s.elapseTo due) z t)
        ∧ (s.Quiet → r.warned = false →
            let u := s.elapseTo (due - 300000000)
            exec (.isolationWarning zone.toNat) s = .next (State.reporting { u with
                zones := s.zones.map fun x =>
                  if x.number = z.number then { z with isolation := some { r with warned := true } } else x }
              [.isolation zone.toNat .warning r.kind (some ((due - u.now + 59999999) / 60000000)) z.isolated])))

/-! ### The house (chapter 5) -/

/-- SET_PHASE, taken at once (R99, R101): its refusals in order, and the triplet adopted where the transmit queue takes the
PHASE notice. The phase already held changes the triplet alone. A new one ends every SHOW isolation but in REHEARSAL and
PERFORMANCE (R82), as `State.showEnded` (Safety.lean) spells: the records go, the attributes are cleared, the unlatched SMOKE lines are
re-evaluated, the zones derived and told, and every SERVICE isolation stands (R79, R51, R74, R75). It clears the proven flag in CLOSED
and HOUSE_CLEAR (R127), and applies its phase call, where the profile names a call that has a definition (R179). Where no SHOW
isolation ends, nothing else but the telling of the curtain changes. -/
def Obligations.PhaseIsSet : Prop :=
  ∀ (s : Machine.State) (tag phase : Byte), s.Ready → s.Quiet →
    let refused (why : Reason) : Prop := exec (.setPhase tag phase) s = .next (s.replying tag 1 (.refused why) .none)
    (5 < phase.toNat → refused .badArgument)
    ∧ ∀ p : Phase, phase = p.code →
      if (p = .houseOpen ∨ p = .performance) ∧ 2 ≤ s.house.level then refused .houseLevel
      else if p = .houseOpen ∧ (∃ c ∈ s.house.curtains, c.present = true ∧ c.proven = false) then refused .notProven
      else
        let seq := s.house.phaseSeq + 1
        match s.notices.offer s.loop (.phase p seq) with
        | none => refused .loopBusy
        | some ns =>
          let v : Machine.State := { s.replying tag 1 .forwarded .none with
            notices := ns
            house := { s.house with phase := p, phaseSeq := seq, phaseOrigin := s.start.station } }
          (p = s.house.phase →
            exec (.setPhase tag phase) s = .next (v.reporting [.phase p seq s.start.station]))
          ∧ (p ≠ s.house.phase → ∃ t, exec (.setPhase tag phase) s = .next t
              ∧ t.house.phase = p ∧ t.house.phaseSeq = seq ∧ t.house.phaseOrigin = s.start.station
              ∧ t.panel.replies = v.panel.replies
              ∧ (s.ZoneLaw → p ≠ .rehearsal → p ≠ .performance →
                  ∀ z ∈ t.zones, ∀ r, z.isolation = some r → r.kind = .service)
              ∧ (s.ZoneLaw → s.ViewLaw → p ≠ .rehearsal → p ≠ .performance → s.showEnded v t)
              ∧ ((p = .rehearsal ∨ p = .performance ∨ ∀ z ∈ s.zones, ∀ r, z.isolation = some r → r.kind = .service) →
                  t.gov = (if p = .closed ∨ p = .houseClear then { s.gov with proven := false } else s.gov)
                  ∧ t.house.level = s.house.level ∧ t.travel = s.travel ∧ t.lights = s.lights
                  ∧ t.calls = (match s.definition? ((s.start.profile.phaseCalls[phase.toNat]?).getD 0) with
                      | none => s.calls
                      | some d => (s.calls.apply s.house.level s.now s.start.station d).1)
                  ∧ t = v.settledAs t))

/-- EVACUATE, SILENCE and HOUSE_RESET, taken at once (R93): the manager key for the last two; the house command counter advances
even where the transmit queue refuses the notice (R28). Forwarded, the command acts at this station as `State.commanded`
(Safety.lean) spells: on zone 0 by Table 5-2, so that after an EVACUATE of a quiet or silenced house the level is 5; SILENCE makes
CONFIRMED owned zones SILENCED (R68); HOUSE_RESET clears every latch, re-evaluates every line of the owned zones, ends their SHOW
isolations, derives them, and empties the first-alarm order (R69, R82, R96). A CONFIRMED zone that holds no first cause tells its
silencing with cause SMOKE, which is the model's choice (log 41); the zones are told in rising order (log 46). -/
def Obligations.HouseCommandsApply : Prop :=
  ∀ (s : Machine.State) (tag : Byte) (c : HouseCommand), s.Ready → s.Quiet → s.ZoneLaw → s.ViewLaw →
    let row : Instr :=
      match c with
      | .evacuate => .evacuate tag
      | .silence => .silence tag
      | .houseReset => .houseReset tag
    let counted : Machine.State := { s with notices := { s.notices with commandSeq := s.notices.commandSeq + 1 } }
    if c ≠ .evacuate ∧ s.managerTurned = false then
      exec row s = .next (s.replying tag c.kindCode (.refused .keyRequired) .none)
    else
      match counted.notices.offer s.loop (.houseCmd c s.notices.commandSeq) with
      | none => exec row s = .next (counted.replying tag c.kindCode (.refused .loopBusy) .none)
      | some ns => ∃ t, exec row s = .next t
          ∧ s.commanded c { s.replying tag c.kindCode .forwarded .none with notices := ns } t

/-! ### The safety curtain (chapters 6 and 7) -/

/-- The five curtain commands other than RAISE and RESUME on the station's own curtain, taken at once: the checks of Table 6-2
and the outcomes of Table 6-3 (R110, R111, R115 to R118, R126), with what a descent begins (R106, R137) and its end at once
while the pair reads down arrival (R115, R117, R120, R127). An entry into DROPPING applies the warning call, and a CLEAR_STATUS that
lowers the level hands it to the dispatcher (R129, R178); what is offered and reported of a changed curtain is EveryChangeIsTold. -/
def Obligations.CurtainCommandTable : Prop :=
  ∀ (s : Machine.State) (tag n : Byte) (a : CurtainAction), s.Ready → s.Quiet → 1 ≤ n.toNat → n.toNat ≤ 4 →
    s.gov.curtain = n.toNat →
    let row : Instr :=
      match a with
      | .lower => .curtainLower tag n
      | .stop => .curtainStop tag n
      | .drop => .curtainDrop tag n
      | .proof => .curtainProof tag n
      | .clearStatus => .curtainClearStatus tag n
    let refused (why : Reason) : Prop := exec row s = .next (s.replying tag a.kindCode (.refused why) .none)
    let unchanged : Prop := exec row s = .next (s.replying tag a.kindCode .accepted .none)
    let moved (g : Governor) (v : Travel) (entered : Bool) : Prop := ∃ t, exec row s = .next t
      ∧ t.gov = g ∧ t.travel = v ∧ t.house.level = s.house.level ∧ t.lights = s.lights
      ∧ t.calls = s.callsAfter s.house.level entered
      ∧ t = State.settledAs (s.replying tag a.kindCode .accepted .none) t
    let held : Travel := { s.travel with stage := 0 }
    let descent (st : CurtainState) (proof : ProofMark) (last : LastResult) : Prop :=
      let start := if s.travel.known = true then some (s.travel.accumulator / 1000) else none
      let proves := (start.any fun p => s.start.profile.params.length * 9 / 10 ≤ p) && s.gov.error.isNone
      let begun : Travel := { s.travel with
        stage := 1, overRun := 0, underRun := 0, lateRun := 0, elapsed := 0, overspeedFound := false, lateFound := false }
      if s.gov.pair = .downArrival then
        moved { s.gov with
          state := .down
          lastResult := .completed
          descentStart := start
          proven := s.gov.proven || proves
          proofMark := if proof = .running then (if proves = true then .passed else .failed) else .none }
          { begun with stage := 0 } (st == .dropping)
      else
        moved { s.gov with state := st, lastResult := last, proofMark := proof, descentStart := start } begun (st == .dropping)
    match a with
    | .lower =>
      if s.gov.error.isSome = true then refused .statusLatched
      else
        match s.gov.state with
        | .raising => descent .lowering .none .stopped
        | .raiseHeld | .up | .lowerHeld => descent .lowering .none s.gov.lastResult
        | .down | .lowering | .dropping => unchanged
        | .stuck => refused .curtainState
    | .stop =>
      match s.gov.state with
      | .raising => moved { s.gov with state := .raiseHeld, lastResult := .stopped } held false
      | .lowering => moved { s.gov with state := .lowerHeld, lastResult := .stopped } held false
      | .dropping => refused .dropUnstoppable
      | .down | .raiseHeld | .up | .lowerHeld | .stuck => unchanged
    | .drop =>
      match s.gov.state with
      | .raising => descent .dropping .none .stopped
      | .raiseHeld | .up | .lowerHeld => descent .dropping .none s.gov.lastResult
      | .lowering => moved { s.gov with state := .dropping } s.travel true
      | .down | .dropping | .stuck => unchanged
    | .proof =>
      if s.gov.error.isSome = true then refused .statusLatched
      else
        match s.gov.state with
        | .up => descent .dropping .running s.gov.lastResult
        | .down | .raising | .raiseHeld | .lowering | .lowerHeld | .dropping | .stuck => refused .curtainState
    | .clearStatus =>
      if s.engineerTurned = false then refused .keyRequired
      else if s.gov.pair = .disagreement then refused .statusLatched
      else
        match s.gov.state with
        | .down | .up | .raiseHeld | .lowerHeld => ∃ t, exec row s = .next t
            ∧ t.gov = { s.gov with error := none } ∧ t.travel = s.travel ∧ t.house.level ≤ s.house.level
            ∧ t.calls = s.callsAfter t.house.level false
            ∧ t = State.settledAs { s.replying tag a.kindCode .accepted .none with
                house := { s.house with flags := { s.house.flags with curtainFault := false } } } t
        | .raising | .lowering | .dropping | .stuck => refused .curtainState

/-- CURTAIN_RAISE and CURTAIN_RESUME on the station's own curtain, taken at once: the checks of Table 6-2 in order, and Table 6-3
(R110, R113, R114): RAISING with the raise checks afresh (R143), or UP at once while the pair reads up arrival. -/
def Obligations.RaiseAndResume : Prop :=
  ∀ (s : Machine.State) (tag n : Byte), s.Ready → s.Quiet → 1 ≤ n.toNat → n.toNat ≤ 4 → s.gov.curtain = n.toNat →
    let refused (row : Instr) (kind : Byte) (why : Reason) : Prop :=
      exec row s = .next (s.replying tag kind (.refused why) .none)
    let raised (row : Instr) (kind : Byte) (g : Governor) : Prop := ∃ t, exec row s = .next t
      ∧ t.gov = (if s.gov.pair = .upArrival then { g with state := .up, lastResult := .completed }
          else { g with state := .raising })
      ∧ t.travel = (if s.gov.pair = .upArrival then { s.travel with stage := 0 }
          else { s.travel with stage := 0, raiseOver := 0, raiseUnder := 0 })
      ∧ t.house.level = s.house.level ∧ t.lights = s.lights ∧ t.calls = s.calls
      ∧ t = State.settledAs (s.replying tag kind .accepted .none) t
    let checked (row : Instr) (kind : Byte) (taken : Prop) : Prop :=
      (s.gov.raiseKey = false → refused row kind .keyRequired)
      ∧ (s.gov.raiseKey = true → 3 ≤ s.house.level → refused row kind .houseLevel)
      ∧ (s.gov.raiseKey = true → s.house.level < 3 → s.gov.error.isSome = true → refused row kind .statusLatched)
      ∧ (s.gov.raiseKey = true → s.house.level < 3 → s.gov.error = none → taken)
    checked (.curtainRaise tag n) 10 (
      match s.gov.state with
      | .down => raised (.curtainRaise tag n) 10 { s.gov with raiseMicros := 0, proofMark := .none }
      | .lowerHeld => raised (.curtainRaise tag n) 10 { s.gov with proofMark := .none }
      | .raising | .raiseHeld | .up | .lowering | .dropping | .stuck => refused (.curtainRaise tag n) 10 .curtainState)
    ∧ checked (.curtainResume tag n) 11 (
      match s.gov.state with
      | .raiseHeld => raised (.curtainResume tag n) 11 s.gov
      | .down | .raising | .up | .lowering | .lowerHeld | .dropping | .stuck =>
        refused (.curtainResume tag n) 11 .curtainState)

/-- LIMIT_EVENT (R105, R120, R121, Table 6-4): the supervisor takes its limit sample (R134, R135), and the governor acts by the pair
and its state. Both limits closed latch LIMIT_DISAGREE where no error is latched, and drop a curtain that is not at rest. The calls
are as a new level and an entry into DROPPING leave them (R129, R178). That the dispatcher takes the level before the warning call
where the level did not force the drop, as at a first LIMIT_DISAGREE, is the model's reading (log 12). A switch whose position is
held already, and a station without a curtain, change nothing; before the settling the position alone is held (the model's choice,
log 35). -/
def Obligations.LimitEventTable : Prop :=
  ∀ (s : Machine.State) (sw : LimitSwitch) (closed : Bool) (encoder : Half),
    let g := s.gov.setLimit sw closed
    (s.start.mode = none → exec (.limitEvent sw closed encoder) s = .next { s with gov := g })
    ∧ (s.start.mode ≠ none → s.gov.curtain = 0 ∨ s.gov.limit sw = closed →
        exec (.limitEvent sw closed encoder) s = .next s)
    ∧ (s.Quiet → s.start.mode ≠ none → s.gov.curtain ≠ 0 → s.gov.limit sw ≠ closed →
        ∃ t, exec (.limitEvent sw closed encoder) s = .next t
          ∧ let p := s.start.profile.params
            let v := s.travel.limitSample p g.pair encoder
            let start := if v.known = true then some (v.accumulator / 1000) else none
            let proves := (g.descentStart.any fun x => p.length * 9 / 10 ≤ x) && g.error.isNone
            let arrived : Governor := { g with
              state := .down
              lastResult := .completed
              proven := g.proven || proves
              proofMark := if g.proofMark = .running then (if proves = true then .passed else .failed) else g.proofMark }
            let latched : Governor := { g with error := some (g.error.getD .limitDisagree) }
            let dropped : Governor := { latched with state := .dropping, proofMark := .none, descentStart := start }
            let begun : Travel := { v with
              stage := 1, overRun := 0, underRun := 0, lateRun := 0, elapsed := 0
              overspeedFound := false, lateFound := false }
            let first : Prop := g.pair = .disagreement ∧ g.error = none
            (t.gov, t.travel) = (
              match g.pair, g.state with
              | .clear, _ => (g, v)
              | .downArrival, .down => (g, v)
              | .downArrival, .raising => ({ g with state := .down, lastResult := .fault }, { v with stage := 0 })
              | .downArrival, .lowering | .downArrival, .dropping => (arrived, { v with stage := 0 })
              | .downArrival, .raiseHeld | .downArrival, .up | .downArrival, .lowerHeld | .downArrival, .stuck =>
                ({ g with state := .down }, { v with stage := 0 })
              | .upArrival, .raising => ({ g with state := .up, lastResult := .completed }, { v with stage := 0 })
              | .upArrival, .raiseHeld => ({ g with state := .up }, { v with stage := 0 })
              | .upArrival, _ => (g, v)
              | .disagreement, .down | .disagreement, .dropping => (latched, v)
              | .disagreement, .raising => ({ dropped with lastResult := .fault }, begun)
              | .disagreement, .raiseHeld | .disagreement, .up | .disagreement, .lowerHeld => (dropped, begun)
              | .disagreement, .lowering => ({ latched with state := .dropping }, v)
              | .disagreement, .stuck =>
                ({ latched with state := .dropping }, { v with stage := 0, overRun := 0, underRun := 0 }))
            ∧ (first → t.house.flags = { s.house.flags with curtainFault := true }
                ∧ t.house.level = max 1 s.house.level)
            ∧ (¬first → t.house.flags = s.house.flags ∧ t.house.level = s.house.level)
            ∧ t.calls = s.callsAfter t.house.level (g.pair == .disagreement && g.state != .down && g.state != .dropping)
            ∧ t = State.settledAs { s with house := { s.house with flags := t.house.flags } } t)

/-- RAISE_KEY_CHANGE (R105, R119): a release in RAISING holds the raise, last result STOPPED; any other change is held alone.
RAISE_TIMEOUT (R122, R124): in RAISING the raise is held at 90,000 ms of raise time, last result FAULT, and RAISE_TIMEOUT is
latched where no error is. That RAISE_TIMEOUT changes nothing in every other state is log 3, and that the key is held alone before
the settling, where the governor reads no inputs, is the model's choice (log 35). -/
def Obligations.RaiseKeyAndTimeout : Prop :=
  ∀ (s : Machine.State), s.Quiet →
    (∀ pressed, s.start.mode ≠ none → s.gov.curtain = 0 → exec (.raiseKeyChange pressed) s = .next s)
    ∧ (∀ pressed, s.start.mode = none ∨ s.gov.curtain ≠ 0 →
        (s.start.mode = none ∨ pressed = true ∨ s.gov.raiseKey = false ∨ s.gov.state ≠ .raising →
          exec (.raiseKeyChange pressed) s = .next { s with gov := { s.gov with raiseKey := pressed } })
        ∧ (s.start.mode ≠ none → pressed = false → s.gov.raiseKey = true → s.gov.state = .raising →
            ∃ t, exec (.raiseKeyChange pressed) s = .next t
              ∧ t.gov = { s.gov with raiseKey := false, state := .raiseHeld, lastResult := .stopped }
              ∧ t.travel = { s.travel with stage := 0 } ∧ t.house.level = s.house.level ∧ t.lights = s.lights
              ∧ t.calls = s.calls ∧ t = State.settledAs s t))
    ∧ (s.gov.state ≠ .raising → exec .raiseTimeout s = .next s)
    ∧ (s.gov.state = .raising → ∃ t, exec .raiseTimeout s = .next t
        ∧ let u := s.elapse (90000000 - s.gov.raiseMicros)
          t.gov = { u.gov with
            state := .raiseHeld, lastResult := .fault, error := some (s.gov.error.getD .raiseTimeout) }
          ∧ t.travel = { s.travel with stage := 0 }
          ∧ t.house.flags = (if s.gov.error = none then { s.house.flags with curtainFault := true } else s.house.flags)
          ∧ t.house.level = (if s.gov.error = none then max 1 s.house.level else s.house.level)
          ∧ t.calls = u.callsAfter t.house.level false
          ∧ t = State.settledAs { u with house := { s.house with flags := t.house.flags } } t)

/-- TRAVEL_SAMPLE (R133, R144, R124): the supervisor takes its stages, and hands what it finds to the governor in order. STALL
sets STUCK and RAISE_STALL sets RAISE_HELD, last result FAULT; OVERSPEED and LATE change nothing of the motion. The first error
is latched, with CURTAIN_FAULT; an error already latched stands. The calls are as a new level leaves them (R178). -/
def Obligations.TravelSampleActs : Prop :=
  ∀ (s : Machine.State) (encoder : Half),
    (s.travel.sampleDue = none → exec (.travelSample encoder) s = .next s)
    ∧ ∀ due, s.Quiet → s.travel.sampleDue = some due → ∃ t, exec (.travelSample encoder) s = .next t
        ∧ let u := s.elapseTo due
          let r := u.travel.periodicSample s.start.profile.params u.gov encoder
          let v : Travel := { r.1 with sampleDue := some (due + 50000) }
          let g := u.gov
          let flagged : Prop := r.2 ≠ [] ∧ g.error = none
          (t.gov, t.travel) = (
            if .stall ∈ r.2 then
              ({ g with
                state := .stuck
                lastResult := .fault
                error := some (g.error.getD .stall)
                proofMark := if g.proofMark = .running then .failed else g.proofMark }, { v with stage := 0 })
            else if .raiseStall ∈ r.2 then
              ({ g with state := .raiseHeld, lastResult := .fault, error := some (g.error.getD .raiseStall) },
                { v with stage := 0 })
            else if .overspeed ∈ r.2 then ({ g with error := some (g.error.getD .overspeed) }, v)
            else if .late ∈ r.2 then ({ g with error := some (g.error.getD .late) }, v)
            else (g, v))
          ∧ (flagged → t.house.flags = { s.house.flags with curtainFault := true } ∧ t.house.level = max 1 s.house.level)
          ∧ (¬flagged → t.house.flags = s.house.flags ∧ t.house.level = s.house.level)
          ∧ t.calls = u.callsAfter t.house.level false
          ∧ t = State.settledAs { u with house := { s.house with flags := t.house.flags } } t

/-- The stages of a periodic sample: count delta (R134), position (R135), velocity (R136), bands and damper stage in a descent
(R138, R139, R140), closure estimate and lateness (R141, R142), and raise checks in RAISING (R143). A limit sample runs the
first two stages alone (R133). That the displacement of a period, unlike the position, is not clamped at the ends of travel is the
model's reading (log 22). -/
def Obligations.SupervisorComputes : Prop :=
  ∀ (t : Travel) (p : TravelParams) (g : Governor) (reading : Half),
    let c : Half := if p.inverted = true then 65535 - reading else reading
    let delta : Int :=
      match t.previous with
      | none => 0
      | some q =>
        let d : Int := ((c.toNat : Int) - q.toNat) % 65536
        if 32768 ≤ d then d - 65536 else d
    let sum := min (p.length * 1000) (t.accumulator + delta * p.micrometresPerCount).toNat
    let placed : Travel := { t with
      previous := some c
      displacement := t.displacement + delta
      accumulator :=
        match g.pair with
        | .downArrival => 0
        | .upArrival => p.length * 1000
        | .disagreement | .clear => sum
      known := t.known || g.pair == .downArrival || g.pair == .upArrival }
    let v : Int := max (-9999) (min 9999 (((t.displacement + delta) * p.micrometresPerCount).tdiv 50))
    let moved : Travel := { placed with velocity := v, displacement := 0 }
    let pos := placed.accumulator / 1000
    let s := (-v).toNat
    let r := v.toNat
    let lim := if p.slowZone < pos then p.fastLimit else p.slowLimit
    let fast : Bool := lim + lim / 10 < s
    let slow : Bool := s < lim / 4 && !g.downClosed
    -- stages 4 and 5
    let staged : Travel × List Finding :=
      if fast then
        if t.stage < 3 then
          if 2 ≤ t.overRun + 1 then ({ moved with underRun := 0, overRun := 0, stage := t.stage + 1 }, [])
          else ({ moved with underRun := 0, overRun := t.overRun + 1 }, [])
        else if 4 ≤ t.overRun + 1 then
          ({ moved with underRun := 0, overRun := 0, overspeedFound := true },
            if t.overspeedFound = true then [] else [.overspeed])
        else ({ moved with underRun := 0, overRun := t.overRun + 1 }, [])
      else if slow then
        if 0 < t.stage then
          if 4 ≤ t.underRun + 1 then ({ moved with overRun := 0, underRun := 0, stage := t.stage - 1 }, [])
          else ({ moved with overRun := 0, underRun := t.underRun + 1 }, [])
        else ({ moved with overRun := 0, underRun := min 20 (t.underRun + 1) },
          if 20 ≤ t.underRun + 1 then [.stall] else [])
      else ({ moved with overRun := 0, underRun := 0 }, [])
    -- stage 6
    let elapsed := min 600000 (t.elapsed + 50)
    let left := if s = 0 then 600000 else min 600000 ((pos * 1000 + s - 1) / s)
    let lateRun := if placed.known = true ∧ p.deadline < elapsed + left then min 10 (t.lateRun + 1) else 0
    let late : Bool := placed.known && (lateRun == 10 || (p.deadline < elapsed && !g.downClosed))
    t.limitSample p g.pair reading = placed
    ∧ (g.state ≠ .lowering → g.state ≠ .dropping → g.state ≠ .raising → t.periodicSample p g reading = (moved, []))
    ∧ (g.state = .lowering ∨ g.state = .dropping → t.periodicSample p g reading =
        ({ staged.1 with
            elapsed := elapsed
            closure := elapsed + left
            lateRun := lateRun
            lateFound := t.lateFound || late },
          staged.2 ++ if late = true ∧ t.lateFound = false then [.late] else []))
    ∧ (g.state = .raising → t.periodicSample p g reading =
        if p.raiseLimit + p.raiseLimit / 10 < r then
          ({ moved with raiseOver := min 2 (t.raiseOver + 1), raiseUnder := 0 },
            if 2 ≤ t.raiseOver + 1 then [.raiseStall] else [])
        else if r < p.raiseLimit / 4 ∧ g.upClosed = false then
          ({ moved with raiseUnder := min 20 (t.raiseUnder + 1), raiseOver := 0 },
            if 20 ≤ t.raiseUnder + 1 then [.raiseStall] else [])
        else ({ moved with raiseOver := 0, raiseUnder := 0 }, []))

/-! ### The lights (chapter 8) -/

/-- FADE_TICK (R148, R154): every unheld fade of a channel in use is advanced by one tick, a complete one ends at its target, and
every compare register is written from the level by its curve. PERIOD_WRAP (R153, R155) comes one period after the last wrap and
loads the compare buffer from the register; PERIOD_COMPARE_MATCH (R153) is the moment the counter reaches the compare buffer, and
the output is off from there. A buffer of 0 is off all the period and one of the whole period is on all through it. As time passes
the counter counts modulo the period, and every wrap passed loads the buffer. That a wrap due at a moment is left to be taken there,
so that either order of it and a tick can be run, is the model's choice (log 31); that a match which has passed, or is never
reached, changes nothing is log 3. -/
def Obligations.FadeTickAndPeriod : Prop :=
  (∀ (s : Machine.State),
    (s.lights.tickDue = none → exec .fadeTick s = .next s)
    ∧ (∀ due, s.lights.tickDue = some due →
        let u := s.elapseTo due
        let p := s.start.profile.period
        let advanced (c : LightChannel) : LightChannel :=
          match c.fade with
          | none => c
          | some f =>
            if c.inUse = false ∨ f.held = true then c
            else if f.total ≤ f.done + 1 then { c with level := f.target, fade := none }
            else { c with
              level := ((f.start : Int) + (((f.target : Int) - f.start) * (f.done + 1)).tdiv f.total).toNat
              fade := some { f with done := f.done + 1 } }
        let written (c : LightChannel) : LightChannel := { c with
          compareReg :=
            match c.curve with
            | .linear => c.level * p / 1000
            | .square => c.level * c.level * p / 1000000 }
        exec .fadeTick s = .next { u with lights :=
          ⟨u.lights.channels.map fun c => written (advanced c), some (due + 20000)⟩ })
    ∧ (∀ n, s.light? n = none → exec (.periodWrap n) s = .next s ∧ exec (.periodCompareMatch n) s = .next s)
    ∧ (∀ n c, s.light? n = some c →
        let p := s.start.profile.period
        let u := s.elapseTo c.wrapDue
        exec (.periodWrap n) s = .next { u with lights := { u.lights with
          channels := u.lights.channels.map fun x =>
            if x.number = n then { x with wrapDue := x.wrapDue + p, compareBuf := x.compareReg } else x } }
        ∧ (c.compareBuf = 0 ∨ p ≤ c.compareBuf → exec (.periodCompareMatch n) s = .next s)
        ∧ (0 < c.compareBuf → c.compareBuf < p → ∃ t, exec (.periodCompareMatch n) s = .next t
            ∧ t = s.elapseTo (c.wrapDue + c.compareBuf - p)
            ∧ (s.now ≤ c.wrapDue + c.compareBuf - p → ∀ d, t.light? n = some d → p ≤ c.wrapDue →
                d.counter p t.now = c.compareBuf ∧ d.output p t.now = false))))
  ∧ (∀ (period now : Nat) (c : LightChannel), 0 < period → now < c.wrapDue → c.wrapDue ≤ now + period →
      (c.output period now = true ↔ c.counter period now < c.compareBuf)
      ∧ (c.compareBuf = 0 → c.output period now = false) ∧ (period ≤ c.compareBuf → c.output period now = true)
      ∧ ∀ d, let k := c.elapse period (now + d)
        (now + d ≤ c.wrapDue → k = c)
        ∧ (c.wrapDue < now + d → k = { c with wrapDue := k.wrapDue, compareBuf := c.compareReg }
            ∧ now + d ≤ k.wrapDue ∧ k.wrapDue < now + d + period ∧ (k.wrapDue - c.wrapDue) % period = 0)
        ∧ (now + d < k.wrapDue → k.counter period (now + d) = (c.counter period now + d) % period))

/-- The panel's light commands, taken at once (R149 to R152, R159): an action reaches the channels in use whose group is in the set,
as it is forwarded; a CUE, its target clamped into the channel's floor to 1000 and its time into 0 to 6,000, begins a fade or waits
on a channel with an override, and HOLD, RESUME and RETIME pass such a channel by. What an action does to the channels is one
operation, which a LIGHT_CUE notice from a peer applies too (R152). LIGHTS_RELEASE needs the manager key and a house level below 4;
it releases RETAINED channels, each with its report (R160). -/
def Obligations.LightCommands : Prop :=
  ∀ (s : Machine.State) (tag : Byte), s.Ready → s.Quiet →
    let effect (a : LightAction) (c : LightChannel) : LightChannel :=
      match a with
      | .cue t time =>
        let target := max c.floor (min t.toNat 1000)
        if c.override = .none then { c with fade := some ⟨c.level, target, min time.toNat 6000 * 5, 0, false⟩ }
        else { c with pending := some ⟨target, min time.toNat 6000⟩ }
      | .hold => if c.override = .none then { c with fade := c.fade.map fun f => { f with held := true } } else c
      | .resume => if c.override = .none then { c with fade := c.fade.map fun f => { f with held := false } } else c
      | .retime time =>
        if c.override = .none then
          { c with fade := c.fade.map fun f => ⟨c.level, f.target, min time.toNat 6000 * 5, 0, f.held⟩ }
        else c
    let applied (groups : Half) (a : LightAction) (u : Machine.State) : Machine.State := { u with
      lights := { u.lights with channels := u.lights.channels.map fun c =>
        if c.inUse = true ∧ groups.getLsbD c.group = true then effect a c else c } }
    let acts (groups : Half) (row : Instr) (kind : Byte) (a : LightAction) : Prop :=
      exec row s = .next (
        if groups = 0 then s.replying tag kind (.refused .badArgument) .none
        else
          match s.notices.offer s.loop (.lightCue groups a) with
          | none => s.replying tag kind (.refused .loopBusy) .none
          | some ns => State.replying (applied groups a { s with notices := ns }) tag kind .forwarded .none)
    (∀ groups t time, acts groups (.lightCue tag groups t time) 17 (.cue t time))
    ∧ (∀ groups, acts groups (.lightHold tag groups) 18 .hold)
    ∧ (∀ groups, acts groups (.lightResume tag groups) 19 .resume)
    ∧ (∀ groups time, acts groups (.lightRetime tag groups time) 20 (.retime time))
    ∧ (∀ groups a (u : Machine.State), u.applyLight groups a = applied groups a u)
    ∧ (exec (.lightsRelease tag) s = .next (
        if s.managerTurned = false then s.replying tag 21 (.refused .keyRequired) .none
        else if 4 ≤ s.house.level then s.replying tag 21 (.refused .houseLevel) .none
        else State.reporting
          { s.replying tag 21 .accepted .none with
            lights := { s.lights with channels := s.lights.channels.map fun c =>
              if c.override = .retained then { c with
                override := .none
                pending := none
                fade :=
                  match c.pending with
                  | none => c.fade
                  | some p => some ⟨c.level, p.target, p.time * 5, 0, false⟩ }
              else c } }
          ((s.lights.channels.filter fun c => c.override = .retained).map fun c =>
            .lights c.number .none c.level none)))

/-! ### The calls (chapter 9) -/

/-- The panel's call commands, taken at once (R170 to R173, R167, R168): the checks in order; a call started is applied here as
it is forwarded, and where it is not dropped its record holds the definition's fields and its full counts; a call cancelled or
acknowledged leaves the queue and its channels. QUEUE_FULL (`full`, R168, R171) is the answer where an area of the call is served here,
it is not dropped at arrival, no record of its number is held, the queue holds 24 records, and of those with no bound item none ranks
below a new record of the call. -/
def Obligations.CallCommands : Prop :=
  ∀ (s : Machine.State) (tag call area : Byte), s.Ready → s.Quiet →
    let refused (row : Instr) (kind : Byte) (why : Reason) : Prop :=
      exec row s = .next (s.replying tag kind (.refused why) .none)
    let forwarded (row : Instr) (kind : Byte) (n : Notice) (r : Calls × List Report) : Prop :=
      exec row s = .next (
        match s.notices.offer s.loop n with
        | none => s.replying tag kind (.refused .loopBusy) .none
        | some ns => State.reporting
            (State.replying { s with notices := ns, calls := r.1 } tag kind .forwarded .none) r.2)
    let outside : Prop := call.toNat < 1 ∨ 250 < call.toNat
    let started (d : CallDef) := s.calls.apply s.house.level s.now s.start.station d
    let ended (outcome : CallOutcome) := s.calls.finish s.house.level s.now call.toNat outcome
    (outside → refused (.callStart tag call) 22 .badArgument ∧ refused (.callCancel tag call) 23 .badArgument)
    ∧ (outside ∨ area.toNat < 1 ∨ 8 < area.toNat → refused (.callAck tag call area) 24 .badArgument)
    ∧ (¬outside → s.definition? call.toNat = none →
        refused (.callStart tag call) 22 .unknownCall ∧ refused (.callCancel tag call) 23 .unknownCall
        ∧ (1 ≤ area.toNat → area.toNat ≤ 8 → refused (.callAck tag call area) 24 .unknownCall))
    ∧ (∀ d, ¬outside → s.definition? call.toNat = some d →
        let served := [1, 2, 3, 4, 5, 6, 7, 8].filter fun a =>
          d.areas.getLsbD (a - 1) && s.calls.channels.any fun k => k.inUse && k.area == a
        let full : Prop := served ≠ [] ∧ ¬(d.dropOnAlarm = true ∧ d.priority ≤ s.house.level)
          ∧ (∀ r ∈ s.calls.queue, r.number ≠ d.number) ∧ 24 ≤ s.calls.queue.length
          ∧ ∀ r, (s.calls.queue.filter fun r => r.items.all fun i => i.channel.isNone).getLast? = some r →
              ¬(r.priority < d.priority ∨ (r.priority = d.priority ∧ r.group < d.group))
        (full → refused (.callStart tag call) 22 .queueFull)
        ∧ (¬full →
            forwarded (.callStart tag call) 22 (.call d) (started d)
            ∧ (s.StoreLaw → served ≠ [] → ¬(d.dropOnAlarm = true ∧ d.priority ≤ s.house.level) →
                (∀ k ∈ s.calls.channels, ∀ n, k.bound = some n → s.calls.record? n ≠ none) →
                ∃ r ∈ (started d).1.queue, r.number = d.number ∧ r.origin = s.start.station ∧ r.pattern = d.pattern
                  ∧ r.interval = d.interval ∧ r.priority = d.priority ∧ r.group = d.group
                  ∧ r.ackWanted = d.ackWanted ∧ r.dropOnAlarm = d.dropOnAlarm
                  ∧ r.items.map CallItem.area = served
                  ∧ ∀ i ∈ r.items, i.remaining = d.repeats))
        ∧ forwarded (.callCancel tag call) 23 (.callCancel call.toNat) (ended .cancelled)
        ∧ (1 ≤ area.toNat → area.toNat ≤ 8 →
            forwarded (.callAck tag call area) 24 (.callAck call.toNat area.toNat) (ended (.answered area.toNat)))
        ∧ (s.StoreLaw → ∀ outcome,
            (∀ r ∈ (ended outcome).1.queue, r.number ≠ call.toNat)
            ∧ (s.calls.record? call.toNat = none → ended outcome = (s.calls, []))
            ∧ (∀ r, s.calls.record? call.toNat = some r →
                (ended outcome).2 = [.call call.toNat outcome r.origin]
                ∧ ∀ k ∈ (ended outcome).1.channels, k.bound ≠ some call.toNat)))

/-- The binding arbiter (R174, R175), run for an area, and a call applied (R167 to R169). The arbiter takes the waiting items of
eligible records of the area, highest-ranked first, and places each on the lowest-numbered IDLE channel that may take it, or else on
the channel in INTERVAL bound to the lowest-ranked record below it, whose item takes the channel's count back; the first that finds no
place leaves all below it waiting. A call that no channel in use serves changes nothing; one that DROP_ON_ALARM drops removes its
record; a record held is refreshed, keeping its arrival stamp; else a record is made with the next stamp, in a full queue in place of
the lowest-ranked record with no bound item where the call ranks above it, and otherwise the call is dropped. The areas of the record
and of channels freed are then arbitrated. That stamps are renumbered in their order where the next would pass 65,535 is log 16; that
an interval in course runs to its old end under a refresh (log 51), and that the report of a call dropped at arrival names the origin
of the call that arrived (log 55), are the model's choice; the record displaced is reported first (R181). -/
def Obligations.CallsAreAppliedAndBound : Prop :=
  ∀ (c : Calls) (level now : Nat), c.Bound → c.Ranked →
    let above (a b : CallRec) : Bool :=
      decide (b.priority < a.priority ∨ (a.priority = b.priority ∧ (b.group < a.group ∨ (a.group = b.group ∧ a.stamp < b.stamp))))
    let silenced (k : DispatchChannel) : DispatchChannel := { k with state := .idle, bound := none, count := 0 }
    let arbitrated (areas : List Nat) (u : Calls) : Calls := areas.foldl (Calls.arbitrate level now) u
    -- the arbiter
    (∀ area, ∃ waiting : List CallRec,
      (waiting.Pairwise fun a b => above a b = true)
      ∧ (∀ r, r ∈ waiting ↔ r ∈ c.records ∧ (r.number = 0 ∨ level < r.priority)
          ∧ ∃ i ∈ r.items, i.area = area ∧ i.channel = none ∧ 0 < i.remaining)
      ∧ c.arbitrate level now area = Calls.placeItems now area (waiting.map CallRec.number) c)
    ∧ (∀ area, Calls.placeItems now area [] c = c)
    ∧ (∀ area rest, ∀ r ∈ c.records,
      let placed := Calls.placeItems now area (r.number :: rest) c
      let takes (k : DispatchChannel) : Prop :=
        k ∈ c.channels ∧ k.inUse = true ∧ k.area = area ∧ (r.number = 0 → k.evacuation = true)
      let free (k : DispatchChannel) : Prop := takes k ∧ k.state = .idle
      let lower (k : DispatchChannel) (x : CallRec) : Prop :=
        takes k ∧ (∃ due, k.state = .interval due) ∧ x ∈ c.records ∧ k.bound = some x.number ∧ above r x = true
      let onItem (u : Calls) (x : CallRec) (f : CallItem → CallItem) : Calls :=
        let g (q : CallRec) : CallRec := { q with items := q.items.map fun i => if i.area = area then f i else i }
        if x.number = 0 then { u with evacuation := u.evacuation.map g }
        else { u with queue := u.queue.map fun q => if q.number = x.number then g q else q }
      let bound (u : Calls) (k : DispatchChannel) : Calls :=
        onItem { u with channels := u.channels.map fun j =>
          if j.number = k.number then { j with
            state := .sounding r.pattern (now + patternMicros r.pattern)
            bound := some r.number
            count := ((r.items.find? fun i => i.area == area).map CallItem.remaining).getD 0 }
          else j } r fun i => { i with channel := some k.number }
      (∀ k, free k → (∀ j, free j → k.number ≤ j.number) → placed = Calls.placeItems now area rest (bound c k))
      ∧ (∀ k x, (∀ j, ¬free j) → lower k x → (∀ j y, lower j y → y = x ∨ above y x = true) →
          placed = Calls.placeItems now area rest (bound (onItem c x fun i => { i with remaining := k.count, channel := none }) k))
      ∧ ((∀ j, ¬free j) → (∀ j x, ¬lower j x) → placed = c))
    -- a call applied
    ∧ ∀ (origin : Nat) (d : CallDef), 1 ≤ d.number →
      let result := c.apply level now origin d
      let areas := [1, 2, 3, 4, 5, 6, 7, 8].filter fun a =>
        d.areas.getLsbD (a - 1) && c.channels.any fun k => k.inUse && k.area == a
      let held := [1, 2, 3, 4, 5, 6, 7, 8].filter fun a => c.channels.any fun k => k.bound == some d.number && k.area == a
      let without (n : Nat) : Calls := { c with
        queue := c.queue.filter fun q => q.number != n
        channels := c.channels.map fun k => if k.bound = some n then silenced k else k }
      let among (r : CallRec) (queue : List CallRec) : List CallRec :=
        queue.filter (fun q => above q r) ++ [r] ++ queue.filter (fun q => !above q r)
      let record (stamp : Nat) (items : List CallItem) : CallRec :=
        ⟨d.number, origin, d.pattern, d.interval, d.priority, d.group, d.ackWanted, d.dropOnAlarm, stamp, items⟩
      let made (u : Calls) : Calls :=
        let restamp (r : CallRec) : CallRec := { r with stamp := (u.records.filter fun q => q.stamp < r.stamp).length }
        let w : Calls :=
          if u.nextStamp < 65535 then u
          else { u with
            evacuation := u.evacuation.map restamp, queue := u.queue.map restamp, nextStamp := u.records.length }
        arbitrated areas { w with
          queue := among (record w.nextStamp (areas.map fun a => ⟨a, d.repeats, none⟩)) w.queue
          nextStamp := w.nextStamp + 1 }
      (areas = [] → result = (c, []))
      ∧ (areas ≠ [] → d.dropOnAlarm = true → d.priority ≤ level →
          result = (arbitrated held (without d.number), [.call d.number (.dropped .alarm) origin]))
      ∧ (areas ≠ [] → d.dropOnAlarm = false ∨ level < d.priority →
        (∀ r ∈ c.queue, r.number = d.number →
          let fresh := record r.stamp (areas.map fun a => ⟨a, d.repeats, (r.items.find? fun i => i.area == a).bind CallItem.channel⟩)
          let new : Calls := { c with
            queue := among fresh (c.queue.filter fun q => q.number != d.number)
            channels := c.channels.map fun k =>
              if k.bound = some d.number then (if k.area ∈ areas then { k with count := d.repeats } else silenced k) else k }
          let standing : Calls :=
            if level < d.priority then new
            else { new with
              queue := new.queue.map fun q => if q.number = d.number then { q with items := q.items.map fun i => { i with channel := none } } else q
              channels := new.channels.map fun k => if k.bound = some d.number then silenced k else k }
          result = (arbitrated ([1, 2, 3, 4, 5, 6, 7, 8].filter fun a => areas.contains a || held.contains a) standing,
            [.call d.number (.queued true areas) origin]))
        ∧ ((∀ r ∈ c.queue, r.number ≠ d.number) →
          (c.queue.length < 24 → result = (made c, [.call d.number (.queued false areas) origin]))
          ∧ (24 ≤ c.queue.length →
            let unbound (r : CallRec) : Prop := r ∈ c.queue ∧ ∀ i ∈ r.items, i.channel = none
            let lowest (r : CallRec) : Prop := unbound r ∧ ∀ q, unbound q → q = r ∨ above q r = true
            let outranked (r : CallRec) : Prop := r.priority < d.priority ∨ (r.priority = d.priority ∧ r.group < d.group)
            (∀ r, lowest r → outranked r → result = (made (without r.number),
              [.call r.number (.dropped .displaced) r.origin, .call d.number (.queued false areas) origin]))
            ∧ ((∀ r, lowest r → ¬outranked r) → result = (c, [.call d.number (.dropped .queueFull) origin])))))

/-- The end of every event gives the house level (R95) and hands a changed one to the call dispatcher, after which an entry into
DROPPING, its own or one the level forces, applies the warning call (R123, R129, R178): `State.callsAfter` (Safety.lean). R129 gives
that order for a forced drop; for an event's own entry into DROPPING it is the model's reading (log 12). And what the dispatcher
does with a new level (R178), and the evacuation record (R180), in the five parts of R178: a level that leaves 5 removes the
evacuation record; every channel bound to a record whose priority no longer exceeds the level is silenced, its count written back,
and the item waits; those with DROP_ON_ALARM are removed, in rank order; a level of 5 makes the evacuation record, with the next
arrival stamp (R166) and an item of 255 for each area of an evacuation channel; and where the level fell or anything was freed or
made, every area of the channels in use is arbitrated in rising order. That the stamps are renumbered in their order where the next
would pass 65,535 is log 16. -/
def Obligations.DispatcherTakesLevel : Prop :=
  (∀ e : Ev, e.finish.house.level = e.s.house.computedLevel
    ∧ e.finish.calls = e.s.callsAfter e.s.house.computedLevel (e.dropped || e.s.forcesDrop e.s.house.computedLevel))
  ∧ ∀ (c : Calls) (station now old new : Nat), c.Bound → c.Ranked →
    let result := c.takeLevel station now old new
    let withdrawn : Bool := old == 5 && new != 5 && c.evacuation.isSome
    let made : Bool := new == 5 && c.evacuation.isNone
    let out (r : CallRec) : Bool := decide (r.priority ≤ new)
    let dropped := c.queue.filter fun r => out r && r.dropOnAlarm
    let freed (k : DispatchChannel) : Bool :=
      (withdrawn && k.bound == some 0) || c.queue.any fun r => out r && k.bound == some r.number
    let waits (r : CallRec) : CallRec := { r with items := r.items.map fun i =>
      match i.channel with
      | none => i
      | some n => { i with remaining := ((c.channels.find? fun k => k.number == n).map DispatchChannel.count).getD 0, channel := none } }
    let kept : Calls := { c with
      evacuation := if withdrawn = true then none else c.evacuation
      queue := (c.queue.filter fun r => !(out r && r.dropOnAlarm)).map fun r => if out r = true then waits r else r
      channels := c.channels.map fun k => if freed k = true then { k with state := .idle, bound := none, count := 0 } else k }
    let restamp (r : CallRec) : CallRec := { r with stamp := (kept.records.filter fun q => q.stamp < r.stamp).length }
    let stamped : Calls :=
      if kept.nextStamp < 65535 then kept
      else { kept with
        evacuation := kept.evacuation.map restamp, queue := kept.queue.map restamp, nextStamp := kept.records.length }
    ∃ areas evacuated : List Nat,
      areas.Pairwise (· < ·) ∧ (∀ a, a ∈ areas ↔ ∃ k ∈ c.channels, k.inUse = true ∧ k.area = a)
      ∧ evacuated.Pairwise (· < ·)
      ∧ (∀ a, a ∈ evacuated ↔ ∃ k ∈ c.channels, k.inUse = true ∧ k.evacuation = true ∧ k.area = a)
      ∧ result.2 = (if withdrawn = true then [.call 0 .withdrawn station] else [])
          ++ (dropped.map fun r => .call r.number (.dropped .alarm) r.origin)
          ++ (if made = true then [.call 0 (.queued false evacuated) station] else [])
      ∧ let standing : Calls :=
          if made = true then { stamped with
            evacuation := some ⟨0, station, 15, 0, 5, 3, false, false, stamped.nextStamp, evacuated.map fun a => ⟨a, 255, none⟩⟩
            nextStamp := stamped.nextStamp + 1 }
          else kept
        result.1 =
          if new < old ∨ withdrawn = true ∨ made = true ∨ (∃ k ∈ c.channels, freed k = true) then
            areas.foldl (Calls.arbitrate new now) standing
          else standing

/-- CHIME_END and INTERVAL_END of a channel bound to a record (R164, R165, R175, R176, R177). At the end of a chime the count falls
by one, a count of 255 standing. A count above 0 leads to the interval, to the next tone of the evacuation call, or to the
highest-ranked waiting record that outranks the bound one: the displaced item, of call 0 too, takes the count back and waits, and
the item that takes its place names the channel, which takes its remaining count. At 0 the item is finished, and a record whose
items are all finished leaves with its report. The released channel is IDLE and its area is arbitrated. The end of an interval
begins the next chime. That either command changes nothing on a channel that is unbound, IDLE, or in the other state is log 3. -/
def Obligations.ChimesAndIntervals : Prop :=
  ∀ (s : Machine.State) (channel : Nat), s.Quiet →
    (s.boundRecord channel = none →
      exec (.chimeEnd channel) s = .next s ∧ exec (.intervalEnd channel) s = .next s)
    ∧ ∀ d r, s.boundRecord channel = some (d, r) →
      (d.state = .idle → exec (.chimeEnd channel) s = .next s ∧ exec (.intervalEnd channel) s = .next s)
      ∧ (∀ due, d.state = .interval due →
        let u := s.elapseTo due
        exec (.chimeEnd channel) s = .next s
        ∧ exec (.intervalEnd channel) s = .next { u with calls := { s.calls with
            channels := s.calls.channels.map fun k =>
              if k.number = channel then { k with state := .sounding r.pattern (u.now + patternMicros r.pattern) }
              else k } })
      ∧ (∀ pattern due, d.state = .sounding pattern due →
        let u := s.elapseTo due
        let count := if d.count = 255 then 255 else d.count - 1
        let higher := s.calls.ranked.find? fun q => q.eligible s.house.level && q.outranks r && q.wants d.area
          && d.mayTake q.number
        exec (.intervalEnd channel) s = .next s
        ∧ (count ≠ 0 → higher = none → exec (.chimeEnd channel) s = .next { u with calls := { s.calls with
            channels := s.calls.channels.map fun k =>
              if k.number = channel then { k with
                count := count
                state :=
                  if r.number = 0 then .sounding r.pattern (u.now + patternMicros r.pattern)
                  else .interval (u.now + r.interval * 1000000) }
              else k } })
        ∧ (∀ q, count ≠ 0 → higher = some q → d.bound = some r.number →
            let onItem (n : Nat) (f : CallItem → CallItem) (c : Calls) : Calls :=
              let g (x : CallRec) : CallRec := { x with items := x.items.map fun i => if i.area = d.area then f i else i }
              if n = 0 then { c with evacuation := c.evacuation.map g }
              else { c with queue := c.queue.map fun x => if x.number = n then g x else x }
            let sounding : Calls := { s.calls with channels := s.calls.channels.map fun k =>
              if k.number = channel then { k with
                count := ((q.items.find? fun i => i.area == d.area).map CallItem.remaining).getD 0
                bound := some q.number
                state := .sounding q.pattern (u.now + patternMicros q.pattern) }
              else k }
            let taken := onItem r.number (fun i => { i with remaining := count, channel := none }) sounding
            exec (.chimeEnd channel) s = .next { u with
              calls := onItem q.number (fun i => { i with channel := some channel }) taken })
        ∧ (s.StoreLaw → (∀ e, s.calls.evacuation = some e → e.number = 0) →
            count = 0 → d.bound = some r.number → r.number ≠ 0 → (s.calls.channels.map DispatchChannel.number).Nodup →
            (∀ k ∈ s.calls.channels, k.bound = some r.number → k.area = d.area → k.number = d.number) →
            let released := Calls.arbitrate s.house.level u.now { s.calls with
              channels := s.calls.channels.map fun k =>
                if k.number = channel then { k with state := .idle, bound := none, count := 0 } else k
              queue := s.calls.queue.map fun x =>
                if x.number = r.number then { x with items := x.items.map fun i =>
                  if i.area = d.area then { i with remaining := 0, channel := none } else i }
                else x } d.area
            ∃ t, exec (.chimeEnd channel) s = .next t
              ∧ (if ∀ i ∈ r.items, i.area ≠ d.area → i.remaining = 0 then
                  t.calls = { released with
                    queue := released.queue.filter fun x => x.number != r.number
                    channels := released.channels.map fun k =>
                      if k.bound = some r.number then { k with state := .idle, bound := none, count := 0 } else k }
                  ∧ t = State.reporting { u with calls := t.calls }
                      [.call r.number (if r.ackWanted = true then .unanswered else .done) r.origin]
                  ∧ (∀ x ∈ t.calls.queue, x.number ≠ r.number) ∧ ∀ k ∈ t.calls.channels, k.bound ≠ some r.number
                else
                  t = { u with calls := t.calls }
                  ∧ t.calls.queue.map CallRec.number = s.calls.queue.map CallRec.number
                  ∧ (∀ x ∈ t.calls.queue, x.number = r.number →
                      ∀ i ∈ x.items, i.area = d.area → i.remaining = 0 ∧ i.channel = none)
                  ∧ t.calls = released)))

/-! ### The panel line (chapter 10) and the profile (chapter 11) -/

/-- Each panel command of the table is its good frame, with the kind and the fields of Table 10-2, completed and taken (R186;
that the row is the whole frame at once is the model's choice, log 26). -/
def Obligations.PanelRowsAreFrames : Prop :=
  ∀ (s : Machine.State) (tag : Byte),
    let framed (row : Instr) (kind : Byte) (body : List Byte) : Prop :=
      exec row s = .next (s.takeFrame ⟨kind, tag, readFrame kind body⟩)
    (∀ p, framed (.setPhase tag p) 1 [p])
    ∧ (∀ z, framed (.ackAlert tag z) 2 [z] ∧ framed (.confirmAlert tag z) 3 [z] ∧ framed (.cancelAlert tag z) 4 [z])
    ∧ framed (.evacuate tag) 5 [] ∧ framed (.silence tag) 6 [] ∧ framed (.houseReset tag) 7 []
    ∧ (∀ z k, framed (.isolate tag z k none) 8 [z, k] ∧ framed (.deisolate tag z) 9 [z]
        ∧ ∀ m, framed (.isolate tag z k (some m)) 8 ([z, k] ++ halfBytes m))
    ∧ (∀ n, framed (.curtainRaise tag n) 10 [n] ∧ framed (.curtainResume tag n) 11 [n]
        ∧ framed (.curtainLower tag n) 12 [n] ∧ framed (.curtainStop tag n) 13 [n] ∧ framed (.curtainDrop tag n) 14 [n]
        ∧ framed (.curtainProof tag n) 15 [n] ∧ framed (.curtainClearStatus tag n) 16 [n])
    ∧ (∀ g, framed (.lightHold tag g) 18 (halfBytes g) ∧ framed (.lightResume tag g) 19 (halfBytes g)
        ∧ ∀ m, framed (.lightRetime tag g m) 20 (halfBytes g ++ halfBytes m)
        ∧ ∀ t, framed (.lightCue tag g t m) 17 (halfBytes g ++ halfBytes t ++ halfBytes m))
    ∧ framed (.lightsRelease tag) 21 []
    ∧ (∀ c, framed (.callStart tag c) 22 [c] ∧ framed (.callCancel tag c) 23 [c]
        ∧ ∀ a, framed (.callAck tag c a) 24 [c, a])
    ∧ framed (.loopTestEcho tag) 25 [0] ∧ framed (.loopTestSelf tag) 25 [1] ∧ framed (.loopTestOff tag) 25 [2]
    ∧ (∀ i, framed (.snapshotStation tag i) 26 [0, i] ∧ framed (.snapshotPeer tag i) 26 [1, i]
        ∧ framed (.snapshotLine tag i) 26 [2, i] ∧ framed (.snapshotZone tag i) 26 [3, i]
        ∧ framed (.snapshotView tag i) 26 [4, i] ∧ framed (.snapshotFirst tag i) 26 [5, i]
        ∧ framed (.snapshotCurtain tag i) 26 [6, i] ∧ framed (.snapshotLight tag i) 26 [7, i]
        ∧ framed (.snapshotLibrary tag i) 26 [8, i] ∧ framed (.snapshotQueue tag i) 26 [9, i]
        ∧ framed (.snapshotChannel tag i) 26 [10, i])
    ∧ (∀ a n, framed (.profileRead tag a n) 27 (halfBytes a ++ [n]))
    ∧ (∀ a bytes, 1 ≤ bytes.length → bytes.length ≤ 48 →
        framed (.profileWrite tag a bytes) 28 (halfBytes a ++ bytes))

/-- Bytes on the panel line (R185), the byte that completes a frame (R186), the gap timer, and the transmitter (R187). A start
byte begins a frame, a length of 2 to 62 is taken, the frame's bytes are gathered, and the check byte completes it: good where
all bytes from the length byte on sum to 0 modulo 256. Every fault of the line and every gap of 10 ms rejects the frame. That a
byte with a low stop bit, or a length out of range, is not among the bytes the reject names is the model's reading (log 40); that
PANEL_FRAME_RECEIVED before the last byte, PANEL_GAP_TIMEOUT in HUNT and PANEL_TRANSMIT_START during a frame change nothing is
log 3. -/
def Obligations.PanelLineCarriesFrames : Prop :=
  ∀ (s : Machine.State), s.Quiet →
    let as_ (u : Machine.State) (a : Assembler) : Machine.State := { u with panel := { u.panel with assembler := a } }
    let rejected (u : Machine.State) (why : RejectReason) (bytes : List Byte) : Machine.State :=
      State.reporting (as_ u .hunt) [.frameReject why bytes[0]? bytes[1]?]
    (∀ b low,
      (s.panel.assembler = .outOfService → exec (.panelByteReceived b low) s = .next s)
      ∧ (s.panel.assembler = .hunt → exec (.panelByteReceived b low) s = .next (
          if b = 0xC3 ∧ low = false then as_ s (.length (s.now + 10000)) else s))
      ∧ (∀ due, s.panel.assembler = .length due → exec (.panelByteReceived b low) s = .next (
          if low = true then rejected s .line []
          else if b.toNat < 2 ∨ 62 < b.toNat then rejected s .length []
          else as_ s (.rest b [] (s.now + 10000))))
      ∧ (∀ m bytes due, s.panel.assembler = .rest m bytes due →
          (low = true → exec (.panelByteReceived b low) s = .next (rejected s .line bytes))
          ∧ (low = false → bytes.length < m.toNat →
              exec (.panelByteReceived b low) s = .next (as_ s (.rest m (bytes ++ [b]) (s.now + 10000)))
              ∧ exec (.panelFrameReceived b) s = .next s)
          ∧ (low = false → m.toNat ≤ bytes.length →
              exec (.panelFrameReceived b) s = exec (.panelByteReceived b low) s
              ∧ (((m :: bytes) ++ [b]).foldl (· + ·) 0 ≠ 0 →
                  exec (.panelByteReceived b low) s = .next (rejected s .check (bytes ++ [b])))
              ∧ (∀ kind tag body, bytes = kind :: tag :: body → ((m :: bytes) ++ [b]).foldl (· + ·) 0 = 0 →
                  exec (.panelByteReceived b low) s
                    = .next ((as_ s .hunt).takeFrame ⟨kind, tag, readFrame kind body⟩)))))
    ∧ (∀ due, s.panel.assembler = .length due →
        exec .panelGapTimeout s = .next (rejected (s.elapseTo due) .gap []))
    ∧ (∀ m bytes due, s.panel.assembler = .rest m bytes due →
        exec .panelGapTimeout s = .next (rejected (s.elapseTo due) .gap bytes))
    ∧ (s.panel.assembler = .hunt ∨ s.panel.assembler = .outOfService → exec .panelGapTimeout s = .next s)
    ∧ (s.panel.tx = none →
        (∀ r rest, s.panel.replies = r :: rest → exec .panelTransmitStart s = .next { s with
            panel := { s.panel with replies := rest, tx := some (.reply r) } })
        ∧ (∀ r rest, s.panel.replies = [] → s.panel.reports = r :: rest → exec .panelTransmitStart s = .next { s with
            panel := { s.panel with reports := rest, tx := some (.report r) } }))
    ∧ (s.panel.tx.isSome = true → exec .panelTransmitStart s = .next s)
    ∧ exec .panelTransmitEnd s = .next { s with panel := { s.panel with tx := none } }

/-- SNAPSHOT (R190, Table 10-5): each topic returns its item as it stands, and nothing changes but the reply queue; STATION returns
the station number, start mode, cause and fault reason, join and port states, loop integrity, fault flags, level, phase triplet,
count of waiting reports and the overflow flag, which it clears. An item out of its topic's range is refused with BAD_ARGUMENT. It is
taken in every start mode. That the remaining times but an isolation's are in milliseconds, rounded up, is the model's choice (log
45). -/
def Obligations.SnapshotsReturnItems : Prop :=
  ∀ (s : Machine.State) (tag item : Byte), s.Quiet → s.panel.assembler ≠ .outOfService → s.panel.access = none →
    s.panel.replies.length < 4 →
    let given (row : Instr) (d : Snapshot) : Prop := exec row s = .next (s.replying tag 26 .accepted (.snapshot d))
    let refused (row : Instr) (why : Reason) : Prop := exec row s = .next (s.replying tag 26 (.refused why) .none)
    let n := item.toNat
    let inside (row : Instr) (lo hi : Nat) (p : Prop) : Prop :=
      (lo ≤ n → n ≤ hi → p) ∧ (n < lo ∨ hi < n → refused row .badArgument)
    inside (.snapshotStation tag item) 0 0 (exec (.snapshotStation tag item) s
        = .next (State.replying { s with panel := { s.panel with overflow := false } } tag 26 .accepted
            (.snapshot (.station ⟨s.start.station, s.start.mode.getD .normal, s.start.cause, s.start.faultReason, s.loop.join,
              s.loop.portA.state, s.loop.portB.state, s.notices.integrity, s.house.flags, s.house.level, s.house.phase,
              s.house.phaseSeq, s.house.phaseOrigin, s.panel.reports.length, s.panel.overflow⟩))))
    ∧ inside (.snapshotPeer tag item) 1 63 (∀ p, s.peer? n = some p → given (.snapshotPeer tag item) (.peer p))
    ∧ inside (.snapshotLine tag item) 1 32 (∀ l, s.lines.records.find? (fun l => l.number == n) = some l →
        given (.snapshotLine tag item) (.line l))
    ∧ inside (.snapshotZone tag item) 1 48 (
        (s.zone? n = none → refused (.snapshotZone tag item) .notOwner)
        ∧ ∀ z, s.zone? n = some z → given (.snapshotZone tag item)
            (.zone z (s.lines.records.filter fun l => l.kind ≠ .unused ∧ l.zone = z.number ∧ l.state = .alarm
                ∧ ¬(l.kind = .smoke ∧ z.isolated = true)).length
              (z.ackDue.map fun due => (due - s.now + 999) / 1000)
              (z.investigationDue.map fun due => (due - s.now + 999) / 1000)
              (z.isolation.bind fun r => r.expiry.map fun due => (due - s.now + 59999999) / 60000000)))
    ∧ inside (.snapshotView tag item) 0 48 (∀ v, s.view? n = some v → given (.snapshotView tag item) (.view v))
    ∧ inside (.snapshotFirst tag item) 0 0 (given (.snapshotFirst tag item) (.first s.house.firstAlarm))
    ∧ inside (.snapshotCurtain tag item) 0 4 (
        (n = 0 → s.gov.curtain = 0 → refused (.snapshotCurtain tag item) .noCurtain)
        ∧ (n = 0 → s.gov.curtain ≠ 0 → given (.snapshotCurtain tag item) (.curtainOwn s.gov s.travel))
        ∧ (n ≠ 0 → ∀ c, s.curtain? n = some c → given (.snapshotCurtain tag item) (.curtain c)))
    ∧ inside (.snapshotLight tag item) 1 12 (∀ c, s.light? n = some c → given (.snapshotLight tag item)
        (.light c s.start.profile.period s.start.profile.overrideTime))
    ∧ inside (.snapshotLibrary tag item) 1 32 (given (.snapshotLibrary tag item)
        (.library ((inOrder (fun a b => decide (a.number ≤ b.number)) s.calls.library)[n - 1]?)))
    ∧ inside (.snapshotQueue tag item) 1 25 (given (.snapshotQueue tag item)
        (.queue (if n = 25 then s.calls.evacuation else s.calls.queue[n - 1]?)))
    ∧ inside (.snapshotChannel tag item) 1 8 (∀ c, s.sounder? n = some c → given (.snapshotChannel tag item)
        (.channel c (c.state.due.map fun due => (due - s.now + 999) / 1000)))

/-- The profile commands (R195) and what a good frame meets (R186): taken in SERVICE alone, with an address and count inside the
memory of 4,096 bytes and 1 to 48 bytes; refused with SERVICE_ONLY elsewhere, as is every command but SNAPSHOT in PROFILE_FAULT.
During an access the first good frame waits, and a second is rejected with BUSY, as is one that finds 4 replies. That a memory
that does not answer is refused with SERVICE_ONLY in the event that takes the command, after the range checks, is the model's
reading (log 37), by the mark it holds since the settling (log 5). -/
def Obligations.ProfileCommandsAndBusyLine : Prop :=
  ∀ (s : Machine.State) (tag : Byte), s.Quiet →
    let busy (kind : Byte) : Machine.State := State.reporting s [.frameReject .busy (some kind) (some tag)]
    (∀ (g : GoodFrame), s.panel.assembler = .outOfService → s.takeFrame g = s)
    ∧ (s.panel.assembler ≠ .outOfService →
      (∀ (g : GoodFrame), g.tag = tag →
        (s.panel.access.isSome = true → s.takeFrame g =
          if s.panel.waiting = none then { s with panel := { s.panel with waiting := some g } } else busy g.kind)
        ∧ (s.panel.access = none → 4 ≤ s.panel.replies.length → s.takeFrame g = busy g.kind)
        ∧ (s.panel.access = none → s.panel.replies.length < 4 →
            (g.parsed = .unknownKind ∨ (s.start.mode = some .service ∨ s.start.mode = some .normal ∧ g.kind.toNat < 27)
                ∧ g.parsed = .badLength →
              s.takeFrame g = s.replying tag g.kind (.refused .badArgument) .none)
            ∧ (g.parsed ≠ .unknownKind → s.start.mode = some .profileFault → g.kind ≠ 26 →
              s.takeFrame g = s.replying tag g.kind (.refused .serviceOnly) .none)))
      ∧ (s.panel.access = none → s.panel.replies.length < 4 → ∀ (address : Half) (count : Byte) (bytes : List Byte),
        (s.start.mode ≠ some .service →
          exec (.profileRead tag address count) s = .next (s.replying tag 27 (.refused .serviceOnly) .none)
          ∧ exec (.profileWrite tag address bytes) s = .next (s.replying tag 28 (.refused .serviceOnly) .none))
        ∧ (s.start.mode = some .service →
          exec (.profileRead tag address count) s = .next (
            if count.toNat < 1 ∨ 48 < count.toNat ∨ 4096 < address.toNat + count.toNat then
              s.replying tag 27 (.refused .badArgument) .none
            else if s.memoryAnswers = false then s.replying tag 27 (.refused .serviceOnly) .none
            else { s with panel := { s.panel with access := some (.read tag address count) } })
          ∧ exec (.profileWrite tag address bytes) s = .next (
            if bytes.length < 1 ∨ 48 < bytes.length ∨ 4096 < address.toNat + bytes.length then
              s.replying tag 28 (.refused .badArgument) .none
            else if s.memoryAnswers = false then s.replying tag 28 (.refused .serviceOnly) .none
            else { s with panel := { s.panel with access := some (.write tag address bytes) } }))))

/-- PROFILE_ACCESS_END (R195): a read answers with the bytes of its addresses, in order, and leaves the memory as it was; a write
has put its bytes at its addresses, and every other address reads as before. The good frame that waited is then taken. That it
changes nothing where no access is in course is log 3. -/
def Obligations.ProfileAccessEnds : Prop :=
  ∀ (s : Machine.State), s.MemoryLaw →
    (s.panel.access = none → exec .profileAccessEnd s = .next s)
    ∧ ∀ a, s.panel.access = some a → ∃ m data,
        let u : Machine.State := { s with
          memory := m
          panel := { s.panel with access := none, waiting := none } }
        let r : Reply :=
          match a with
          | .read tag address _ => ⟨tag, 27, .accepted, .bytes address data⟩
          | .write tag _ _ => ⟨tag, 28, .accepted, .none⟩
        let v : Machine.State := { u with panel := { u.panel with replies := s.panel.replies ++ [r] } }
        (s.panel.waiting = none → exec .profileAccessEnd s = .next v)
        ∧ (∀ g, s.panel.waiting = some g → s.panel.assembler ≠ .outOfService →
            exec .profileAccessEnd s = .next (v.takeFrame g))
        ∧ (match a with
           | .read _ address count => m = s.memory ∧ data.length = count.toNat
               ∧ ∀ i, i < count.toNat → data[i]? = some (Memory.read s.memory (address.toNat + i))
           | .write _ address bytes => Memory.wf m = true
               ∧ (∀ i b, bytes[i]? = some b → Memory.read m (address.toNat + i) = b)
               ∧ ∀ x, x < address.toNat ∨ address.toNat + bytes.length ≤ x → Memory.read m x = Memory.read s.memory x)

/-! ### Tables -/

/-- Zone levels (R71), the station fault level (R94), the durations of the sixteen chime patterns (Table 9-1), and the tests on
a phase triplet from a peer (R100). And a few words as the spec writes them: the check value of the loop's check sequence (R4),
and the bytes of an ACK_ALERT of zone 7 with tag 5 and of its reply (section 10.2). -/
def Obligations.TablesAndWordsAreTheSpecs : Prop :=
  ([ZoneState.quiet, .fault, .preAlarm, .alert, .silenced, .confirmed].map ZoneState.level = [0, 1, 2, 3, 4, 5])
  ∧ (∀ v : ViewEntry, v.level = if v.isolated = true ∧ v.state = .quiet then 1 else v.state.level)
  ∧ (∀ f : FaultFlags, f.level =
      if f.portADown = true ∨ f.portBDown = true ∨ f.loopOpen = true ∨ f.curtainFault = true then 1 else 0)
  ∧ (∀ h : House, (∀ v ∈ h.view, v.level ≤ h.computedLevel) ∧ h.flags.level ≤ h.computedLevel
      ∧ (h.computedLevel = h.flags.level ∨ ∃ v ∈ h.view, h.computedLevel = v.level))
  ∧ ((List.range 16).map patternMicros = [1000000, 1500000, 2000000, 1500000, 1500000, 2500000, 2500000, 3000000,
      2000000, 3000000, 4000000, 5000000, 2000000, 3500000, 6000000, 4000000])
  ∧ (∀ (h : House) (seq : Half) (origin : Nat), h.adoptsPhase seq origin = true ↔
      (1 ≤ (seq - h.phaseSeq).toNat ∧ (seq - h.phaseSeq).toNat ≤ 32767) ∨ (seq = h.phaseSeq ∧ h.phaseOrigin < origin))
  ∧ crc16 [0x31, 0x32, 0x33, 0x34, 0x35, 0x36, 0x37, 0x38, 0x39] = 0x29B1
  ∧ panelFrame 2 5 [7] = [0xC3, 0x03, 0x02, 0x05, 0x07, 0xEF]
  ∧ readFrame 2 [7] = .command (.alert .ack 7)
  ∧ Reply.frame ⟨5, 2, .forwarded, .none⟩ = [0xC3, 0x05, 0x80, 0x05, 0x02, 0x01, 0x00, 0x73]
end

