-- ==== Sys2Proof/Laws/State.lean ====
section
/-! SUPPORT. One lemma per field per update of the state, each true by rfl, so that no later proof unfolds a record
update. -/
namespace Sys2Proof.Machine

/-! ### State.elapse -/

@[simp] theorem State.elapse_start (d : Nat) (s : State) : (s.elapse d).start = s.start := rfl
@[simp] theorem State.elapse_manager (d : Nat) (s : State) : (s.elapse d).manager = s.manager := rfl
@[simp] theorem State.elapse_engineer (d : Nat) (s : State) : (s.elapse d).engineer = s.engineer := rfl
@[simp] theorem State.elapse_loop (d : Nat) (s : State) : (s.elapse d).loop = s.loop := rfl
@[simp] theorem State.elapse_notices (d : Nat) (s : State) : (s.elapse d).notices = s.notices := rfl
@[simp] theorem State.elapse_lines (d : Nat) (s : State) : (s.elapse d).lines = s.lines := rfl
@[simp] theorem State.elapse_zones (d : Nat) (s : State) : (s.elapse d).zones = s.zones := rfl
@[simp] theorem State.elapse_house (d : Nat) (s : State) : (s.elapse d).house = s.house := rfl
@[simp] theorem State.elapse_gov (d : Nat) (s : State) : (s.elapse d).gov = s.gov.elapse d := rfl
@[simp] theorem State.elapse_travel (d : Nat) (s : State) : (s.elapse d).travel = s.travel := rfl
@[simp] theorem State.elapse_calls (d : Nat) (s : State) : (s.elapse d).calls = s.calls := rfl
@[simp] theorem State.elapse_panel (d : Nat) (s : State) : (s.elapse d).panel = s.panel := rfl
@[simp] theorem State.elapse_memory (d : Nat) (s : State) : (s.elapse d).memory = s.memory := rfl
@[simp] theorem State.elapse_memoryAnswers (d : Nat) (s : State) : (s.elapse d).memoryAnswers = s.memoryAnswers := rfl
@[simp] theorem State.elapse_now (d : Nat) (s : State) : (s.elapse d).now = s.now + d := rfl
@[simp] theorem State.elapse_freeCount (d : Nat) (s : State) : (s.elapse d).freeCount = s.freeCount := rfl
@[simp] theorem State.elapse_pending (d : Nat) (s : State) : (s.elapse d).pending = s.pending := rfl

/-! ### State.withPending -/

@[simp] theorem State.withPending_start (s : State) (q : List Instr) : (s.withPending q).start = s.start := rfl
@[simp] theorem State.withPending_manager (s : State) (q : List Instr) : (s.withPending q).manager = s.manager := rfl
@[simp] theorem State.withPending_engineer (s : State) (q : List Instr) : (s.withPending q).engineer = s.engineer := rfl
@[simp] theorem State.withPending_loop (s : State) (q : List Instr) : (s.withPending q).loop = s.loop := rfl
@[simp] theorem State.withPending_notices (s : State) (q : List Instr) : (s.withPending q).notices = s.notices := rfl
@[simp] theorem State.withPending_lines (s : State) (q : List Instr) : (s.withPending q).lines = s.lines := rfl
@[simp] theorem State.withPending_zones (s : State) (q : List Instr) : (s.withPending q).zones = s.zones := rfl
@[simp] theorem State.withPending_house (s : State) (q : List Instr) : (s.withPending q).house = s.house := rfl
@[simp] theorem State.withPending_gov (s : State) (q : List Instr) : (s.withPending q).gov = s.gov := rfl
@[simp] theorem State.withPending_travel (s : State) (q : List Instr) : (s.withPending q).travel = s.travel := rfl
@[simp] theorem State.withPending_lights (s : State) (q : List Instr) : (s.withPending q).lights = s.lights := rfl
@[simp] theorem State.withPending_calls (s : State) (q : List Instr) : (s.withPending q).calls = s.calls := rfl
@[simp] theorem State.withPending_panel (s : State) (q : List Instr) : (s.withPending q).panel = s.panel := rfl
@[simp] theorem State.withPending_memory (s : State) (q : List Instr) : (s.withPending q).memory = s.memory := rfl
@[simp] theorem State.withPending_memoryAnswers (s : State) (q : List Instr) : (s.withPending q).memoryAnswers = s.memoryAnswers := rfl
@[simp] theorem State.withPending_now (s : State) (q : List Instr) : (s.withPending q).now = s.now := rfl
@[simp] theorem State.withPending_freeCount (s : State) (q : List Instr) : (s.withPending q).freeCount = s.freeCount := rfl
@[simp] theorem State.withPending_pending (s : State) (q : List Instr) : (s.withPending q).pending = q := rfl

/-! ### State.setZone -/

@[simp] theorem State.setZone_start (s : State) (z : Nat) (r : ZoneRec) : (s.setZone z r).start = s.start := rfl
@[simp] theorem State.setZone_manager (s : State) (z : Nat) (r : ZoneRec) : (s.setZone z r).manager = s.manager := rfl
@[simp] theorem State.setZone_engineer (s : State) (z : Nat) (r : ZoneRec) : (s.setZone z r).engineer = s.engineer := rfl
@[simp] theorem State.setZone_loop (s : State) (z : Nat) (r : ZoneRec) : (s.setZone z r).loop = s.loop := rfl
@[simp] theorem State.setZone_notices (s : State) (z : Nat) (r : ZoneRec) : (s.setZone z r).notices = s.notices := rfl
@[simp] theorem State.setZone_lines (s : State) (z : Nat) (r : ZoneRec) : (s.setZone z r).lines = s.lines := rfl
@[simp] theorem State.setZone_zones (s : State) (z : Nat) (r : ZoneRec) : (s.setZone z r).zones = update (fun x => x.number == z) (fun _ => r) s.zones := rfl
@[simp] theorem State.setZone_house (s : State) (z : Nat) (r : ZoneRec) : (s.setZone z r).house = s.house := rfl
@[simp] theorem State.setZone_gov (s : State) (z : Nat) (r : ZoneRec) : (s.setZone z r).gov = s.gov := rfl
@[simp] theorem State.setZone_travel (s : State) (z : Nat) (r : ZoneRec) : (s.setZone z r).travel = s.travel := rfl
@[simp] theorem State.setZone_lights (s : State) (z : Nat) (r : ZoneRec) : (s.setZone z r).lights = s.lights := rfl
@[simp] theorem State.setZone_calls (s : State) (z : Nat) (r : ZoneRec) : (s.setZone z r).calls = s.calls := rfl
@[simp] theorem State.setZone_panel (s : State) (z : Nat) (r : ZoneRec) : (s.setZone z r).panel = s.panel := rfl
@[simp] theorem State.setZone_memory (s : State) (z : Nat) (r : ZoneRec) : (s.setZone z r).memory = s.memory := rfl
@[simp] theorem State.setZone_memoryAnswers (s : State) (z : Nat) (r : ZoneRec) : (s.setZone z r).memoryAnswers = s.memoryAnswers := rfl
@[simp] theorem State.setZone_now (s : State) (z : Nat) (r : ZoneRec) : (s.setZone z r).now = s.now := rfl
@[simp] theorem State.setZone_freeCount (s : State) (z : Nat) (r : ZoneRec) : (s.setZone z r).freeCount = s.freeCount := rfl
@[simp] theorem State.setZone_pending (s : State) (z : Nat) (r : ZoneRec) : (s.setZone z r).pending = s.pending := rfl

/-! ### State.setPeer -/

@[simp] theorem State.setPeer_start (s : State) (n : Nat) (f : Peer → Peer) : (s.setPeer n f).start = s.start := rfl
@[simp] theorem State.setPeer_manager (s : State) (n : Nat) (f : Peer → Peer) : (s.setPeer n f).manager = s.manager := rfl
@[simp] theorem State.setPeer_engineer (s : State) (n : Nat) (f : Peer → Peer) : (s.setPeer n f).engineer = s.engineer := rfl
@[simp] theorem State.setPeer_loop (s : State) (n : Nat) (f : Peer → Peer) : (s.setPeer n f).loop = s.loop := rfl
@[simp] theorem State.setPeer_lines (s : State) (n : Nat) (f : Peer → Peer) : (s.setPeer n f).lines = s.lines := rfl
@[simp] theorem State.setPeer_zones (s : State) (n : Nat) (f : Peer → Peer) : (s.setPeer n f).zones = s.zones := rfl
@[simp] theorem State.setPeer_house (s : State) (n : Nat) (f : Peer → Peer) : (s.setPeer n f).house = s.house := rfl
@[simp] theorem State.setPeer_gov (s : State) (n : Nat) (f : Peer → Peer) : (s.setPeer n f).gov = s.gov := rfl
@[simp] theorem State.setPeer_travel (s : State) (n : Nat) (f : Peer → Peer) : (s.setPeer n f).travel = s.travel := rfl
@[simp] theorem State.setPeer_lights (s : State) (n : Nat) (f : Peer → Peer) : (s.setPeer n f).lights = s.lights := rfl
@[simp] theorem State.setPeer_calls (s : State) (n : Nat) (f : Peer → Peer) : (s.setPeer n f).calls = s.calls := rfl
@[simp] theorem State.setPeer_panel (s : State) (n : Nat) (f : Peer → Peer) : (s.setPeer n f).panel = s.panel := rfl
@[simp] theorem State.setPeer_memory (s : State) (n : Nat) (f : Peer → Peer) : (s.setPeer n f).memory = s.memory := rfl
@[simp] theorem State.setPeer_memoryAnswers (s : State) (n : Nat) (f : Peer → Peer) : (s.setPeer n f).memoryAnswers = s.memoryAnswers := rfl
@[simp] theorem State.setPeer_now (s : State) (n : Nat) (f : Peer → Peer) : (s.setPeer n f).now = s.now := rfl
@[simp] theorem State.setPeer_freeCount (s : State) (n : Nat) (f : Peer → Peer) : (s.setPeer n f).freeCount = s.freeCount := rfl
@[simp] theorem State.setPeer_pending (s : State) (n : Nat) (f : Peer → Peer) : (s.setPeer n f).pending = s.pending := rfl

/-! ### State.setLight -/

@[simp] theorem State.setLight_start (s : State) (n : Nat) (f : LightChannel → LightChannel) : (s.setLight n f).start = s.start := rfl
@[simp] theorem State.setLight_manager (s : State) (n : Nat) (f : LightChannel → LightChannel) : (s.setLight n f).manager = s.manager := rfl
@[simp] theorem State.setLight_engineer (s : State) (n : Nat) (f : LightChannel → LightChannel) : (s.setLight n f).engineer = s.engineer := rfl
@[simp] theorem State.setLight_loop (s : State) (n : Nat) (f : LightChannel → LightChannel) : (s.setLight n f).loop = s.loop := rfl
@[simp] theorem State.setLight_notices (s : State) (n : Nat) (f : LightChannel → LightChannel) : (s.setLight n f).notices = s.notices := rfl
@[simp] theorem State.setLight_lines (s : State) (n : Nat) (f : LightChannel → LightChannel) : (s.setLight n f).lines = s.lines := rfl
@[simp] theorem State.setLight_zones (s : State) (n : Nat) (f : LightChannel → LightChannel) : (s.setLight n f).zones = s.zones := rfl
@[simp] theorem State.setLight_house (s : State) (n : Nat) (f : LightChannel → LightChannel) : (s.setLight n f).house = s.house := rfl
@[simp] theorem State.setLight_gov (s : State) (n : Nat) (f : LightChannel → LightChannel) : (s.setLight n f).gov = s.gov := rfl
@[simp] theorem State.setLight_travel (s : State) (n : Nat) (f : LightChannel → LightChannel) : (s.setLight n f).travel = s.travel := rfl
@[simp] theorem State.setLight_calls (s : State) (n : Nat) (f : LightChannel → LightChannel) : (s.setLight n f).calls = s.calls := rfl
@[simp] theorem State.setLight_panel (s : State) (n : Nat) (f : LightChannel → LightChannel) : (s.setLight n f).panel = s.panel := rfl
@[simp] theorem State.setLight_memory (s : State) (n : Nat) (f : LightChannel → LightChannel) : (s.setLight n f).memory = s.memory := rfl
@[simp] theorem State.setLight_memoryAnswers (s : State) (n : Nat) (f : LightChannel → LightChannel) : (s.setLight n f).memoryAnswers = s.memoryAnswers := rfl
@[simp] theorem State.setLight_now (s : State) (n : Nat) (f : LightChannel → LightChannel) : (s.setLight n f).now = s.now := rfl
@[simp] theorem State.setLight_freeCount (s : State) (n : Nat) (f : LightChannel → LightChannel) : (s.setLight n f).freeCount = s.freeCount := rfl
@[simp] theorem State.setLight_pending (s : State) (n : Nat) (f : LightChannel → LightChannel) : (s.setLight n f).pending = s.pending := rfl

/-! ### State.applyLight -/

@[simp] theorem State.applyLight_start (s : State) (g : Half) (a : LightAction) : (s.applyLight g a).start = s.start := rfl
@[simp] theorem State.applyLight_manager (s : State) (g : Half) (a : LightAction) : (s.applyLight g a).manager = s.manager := rfl
@[simp] theorem State.applyLight_engineer (s : State) (g : Half) (a : LightAction) : (s.applyLight g a).engineer = s.engineer := rfl
@[simp] theorem State.applyLight_loop (s : State) (g : Half) (a : LightAction) : (s.applyLight g a).loop = s.loop := rfl
@[simp] theorem State.applyLight_notices (s : State) (g : Half) (a : LightAction) : (s.applyLight g a).notices = s.notices := rfl
@[simp] theorem State.applyLight_lines (s : State) (g : Half) (a : LightAction) : (s.applyLight g a).lines = s.lines := rfl
@[simp] theorem State.applyLight_zones (s : State) (g : Half) (a : LightAction) : (s.applyLight g a).zones = s.zones := rfl
@[simp] theorem State.applyLight_house (s : State) (g : Half) (a : LightAction) : (s.applyLight g a).house = s.house := rfl
@[simp] theorem State.applyLight_gov (s : State) (g : Half) (a : LightAction) : (s.applyLight g a).gov = s.gov := rfl
@[simp] theorem State.applyLight_travel (s : State) (g : Half) (a : LightAction) : (s.applyLight g a).travel = s.travel := rfl
@[simp] theorem State.applyLight_calls (s : State) (g : Half) (a : LightAction) : (s.applyLight g a).calls = s.calls := rfl
@[simp] theorem State.applyLight_panel (s : State) (g : Half) (a : LightAction) : (s.applyLight g a).panel = s.panel := rfl
@[simp] theorem State.applyLight_memory (s : State) (g : Half) (a : LightAction) : (s.applyLight g a).memory = s.memory := rfl
@[simp] theorem State.applyLight_memoryAnswers (s : State) (g : Half) (a : LightAction) : (s.applyLight g a).memoryAnswers = s.memoryAnswers := rfl
@[simp] theorem State.applyLight_now (s : State) (g : Half) (a : LightAction) : (s.applyLight g a).now = s.now := rfl
@[simp] theorem State.applyLight_freeCount (s : State) (g : Half) (a : LightAction) : (s.applyLight g a).freeCount = s.freeCount := rfl
@[simp] theorem State.applyLight_pending (s : State) (g : Half) (a : LightAction) : (s.applyLight g a).pending = s.pending := rfl

/-! ### State.send -/

@[simp] theorem State.send_start (s : State) (n : Notice) : (s.send n).start = s.start := rfl
@[simp] theorem State.send_manager (s : State) (n : Notice) : (s.send n).manager = s.manager := rfl
@[simp] theorem State.send_engineer (s : State) (n : Notice) : (s.send n).engineer = s.engineer := rfl
@[simp] theorem State.send_loop (s : State) (n : Notice) : (s.send n).loop = s.loop := rfl
@[simp] theorem State.send_notices (s : State) (n : Notice) : (s.send n).notices = (s.notices.offer s.loop n).getD s.notices := rfl
@[simp] theorem State.send_lines (s : State) (n : Notice) : (s.send n).lines = s.lines := rfl
@[simp] theorem State.send_zones (s : State) (n : Notice) : (s.send n).zones = s.zones := rfl
@[simp] theorem State.send_house (s : State) (n : Notice) : (s.send n).house = s.house := rfl
@[simp] theorem State.send_gov (s : State) (n : Notice) : (s.send n).gov = s.gov := rfl
@[simp] theorem State.send_travel (s : State) (n : Notice) : (s.send n).travel = s.travel := rfl
@[simp] theorem State.send_lights (s : State) (n : Notice) : (s.send n).lights = s.lights := rfl
@[simp] theorem State.send_calls (s : State) (n : Notice) : (s.send n).calls = s.calls := rfl
@[simp] theorem State.send_panel (s : State) (n : Notice) : (s.send n).panel = s.panel := rfl
@[simp] theorem State.send_memory (s : State) (n : Notice) : (s.send n).memory = s.memory := rfl
@[simp] theorem State.send_memoryAnswers (s : State) (n : Notice) : (s.send n).memoryAnswers = s.memoryAnswers := rfl
@[simp] theorem State.send_now (s : State) (n : Notice) : (s.send n).now = s.now := rfl
@[simp] theorem State.send_freeCount (s : State) (n : Notice) : (s.send n).freeCount = s.freeCount := rfl
@[simp] theorem State.send_pending (s : State) (n : Notice) : (s.send n).pending = s.pending := rfl

/-! ### State.setAssembler -/

@[simp] theorem State.setAssembler_start (s : State) (a : Assembler) : (s.setAssembler a).start = s.start := rfl
@[simp] theorem State.setAssembler_manager (s : State) (a : Assembler) : (s.setAssembler a).manager = s.manager := rfl
@[simp] theorem State.setAssembler_engineer (s : State) (a : Assembler) : (s.setAssembler a).engineer = s.engineer := rfl
@[simp] theorem State.setAssembler_loop (s : State) (a : Assembler) : (s.setAssembler a).loop = s.loop := rfl
@[simp] theorem State.setAssembler_notices (s : State) (a : Assembler) : (s.setAssembler a).notices = s.notices := rfl
@[simp] theorem State.setAssembler_lines (s : State) (a : Assembler) : (s.setAssembler a).lines = s.lines := rfl
@[simp] theorem State.setAssembler_zones (s : State) (a : Assembler) : (s.setAssembler a).zones = s.zones := rfl
@[simp] theorem State.setAssembler_house (s : State) (a : Assembler) : (s.setAssembler a).house = s.house := rfl
@[simp] theorem State.setAssembler_gov (s : State) (a : Assembler) : (s.setAssembler a).gov = s.gov := rfl
@[simp] theorem State.setAssembler_travel (s : State) (a : Assembler) : (s.setAssembler a).travel = s.travel := rfl
@[simp] theorem State.setAssembler_lights (s : State) (a : Assembler) : (s.setAssembler a).lights = s.lights := rfl
@[simp] theorem State.setAssembler_calls (s : State) (a : Assembler) : (s.setAssembler a).calls = s.calls := rfl
@[simp] theorem State.setAssembler_panel (s : State) (a : Assembler) : (s.setAssembler a).panel = { s.panel with assembler := a } := rfl
@[simp] theorem State.setAssembler_memory (s : State) (a : Assembler) : (s.setAssembler a).memory = s.memory := rfl
@[simp] theorem State.setAssembler_memoryAnswers (s : State) (a : Assembler) : (s.setAssembler a).memoryAnswers = s.memoryAnswers := rfl
@[simp] theorem State.setAssembler_now (s : State) (a : Assembler) : (s.setAssembler a).now = s.now := rfl
@[simp] theorem State.setAssembler_freeCount (s : State) (a : Assembler) : (s.setAssembler a).freeCount = s.freeCount := rfl
@[simp] theorem State.setAssembler_pending (s : State) (a : Assembler) : (s.setAssembler a).pending = s.pending := rfl

/-! ### State.reporting -/

@[simp] theorem State.reporting_start (s : State) (made : List Report) : (s.reporting made).start = s.start := rfl
@[simp] theorem State.reporting_manager (s : State) (made : List Report) : (s.reporting made).manager = s.manager := rfl
@[simp] theorem State.reporting_engineer (s : State) (made : List Report) : (s.reporting made).engineer = s.engineer := rfl
@[simp] theorem State.reporting_loop (s : State) (made : List Report) : (s.reporting made).loop = s.loop := rfl
@[simp] theorem State.reporting_notices (s : State) (made : List Report) : (s.reporting made).notices = s.notices := rfl
@[simp] theorem State.reporting_lines (s : State) (made : List Report) : (s.reporting made).lines = s.lines := rfl
@[simp] theorem State.reporting_zones (s : State) (made : List Report) : (s.reporting made).zones = s.zones := rfl
@[simp] theorem State.reporting_house (s : State) (made : List Report) : (s.reporting made).house = s.house := rfl
@[simp] theorem State.reporting_gov (s : State) (made : List Report) : (s.reporting made).gov = s.gov := rfl
@[simp] theorem State.reporting_travel (s : State) (made : List Report) : (s.reporting made).travel = s.travel := rfl
@[simp] theorem State.reporting_lights (s : State) (made : List Report) : (s.reporting made).lights = s.lights := rfl
@[simp] theorem State.reporting_calls (s : State) (made : List Report) : (s.reporting made).calls = s.calls := rfl
@[simp] theorem State.reporting_panel (s : State) (made : List Report) : (s.reporting made).panel = s.panel.addReports made := rfl
@[simp] theorem State.reporting_memory (s : State) (made : List Report) : (s.reporting made).memory = s.memory := rfl
@[simp] theorem State.reporting_memoryAnswers (s : State) (made : List Report) : (s.reporting made).memoryAnswers = s.memoryAnswers := rfl
@[simp] theorem State.reporting_now (s : State) (made : List Report) : (s.reporting made).now = s.now := rfl
@[simp] theorem State.reporting_freeCount (s : State) (made : List Report) : (s.reporting made).freeCount = s.freeCount := rfl
@[simp] theorem State.reporting_pending (s : State) (made : List Report) : (s.reporting made).pending = s.pending := rfl

/-! ### State.replying -/

@[simp] theorem State.replying_start (s : State) (tag kind : Byte) (a : Answer) (d : ReplyData) : (s.replying tag kind a d).start = s.start := rfl
@[simp] theorem State.replying_manager (s : State) (tag kind : Byte) (a : Answer) (d : ReplyData) : (s.replying tag kind a d).manager = s.manager := rfl
@[simp] theorem State.replying_engineer (s : State) (tag kind : Byte) (a : Answer) (d : ReplyData) : (s.replying tag kind a d).engineer = s.engineer := rfl
@[simp] theorem State.replying_loop (s : State) (tag kind : Byte) (a : Answer) (d : ReplyData) : (s.replying tag kind a d).loop = s.loop := rfl
@[simp] theorem State.replying_notices (s : State) (tag kind : Byte) (a : Answer) (d : ReplyData) : (s.replying tag kind a d).notices = s.notices := rfl
@[simp] theorem State.replying_lines (s : State) (tag kind : Byte) (a : Answer) (d : ReplyData) : (s.replying tag kind a d).lines = s.lines := rfl
@[simp] theorem State.replying_zones (s : State) (tag kind : Byte) (a : Answer) (d : ReplyData) : (s.replying tag kind a d).zones = s.zones := rfl
@[simp] theorem State.replying_house (s : State) (tag kind : Byte) (a : Answer) (d : ReplyData) : (s.replying tag kind a d).house = s.house := rfl
@[simp] theorem State.replying_gov (s : State) (tag kind : Byte) (a : Answer) (d : ReplyData) : (s.replying tag kind a d).gov = s.gov := rfl
@[simp] theorem State.replying_travel (s : State) (tag kind : Byte) (a : Answer) (d : ReplyData) : (s.replying tag kind a d).travel = s.travel := rfl
@[simp] theorem State.replying_lights (s : State) (tag kind : Byte) (a : Answer) (d : ReplyData) : (s.replying tag kind a d).lights = s.lights := rfl
@[simp] theorem State.replying_calls (s : State) (tag kind : Byte) (a : Answer) (d : ReplyData) : (s.replying tag kind a d).calls = s.calls := rfl
@[simp] theorem State.replying_memory (s : State) (tag kind : Byte) (a : Answer) (d : ReplyData) : (s.replying tag kind a d).memory = s.memory := rfl
@[simp] theorem State.replying_memoryAnswers (s : State) (tag kind : Byte) (a : Answer) (d : ReplyData) : (s.replying tag kind a d).memoryAnswers = s.memoryAnswers := rfl
@[simp] theorem State.replying_now (s : State) (tag kind : Byte) (a : Answer) (d : ReplyData) : (s.replying tag kind a d).now = s.now := rfl
@[simp] theorem State.replying_freeCount (s : State) (tag kind : Byte) (a : Answer) (d : ReplyData) : (s.replying tag kind a d).freeCount = s.freeCount := rfl
@[simp] theorem State.replying_pending (s : State) (tag kind : Byte) (a : Answer) (d : ReplyData) : (s.replying tag kind a d).pending = s.pending := rfl

/-! ### State.onPort -/

@[simp] theorem State.onPort_start (s : State) (p : Port) (f : PortRec → PortRec) : (s.onPort p f).start = s.start := rfl
@[simp] theorem State.onPort_manager (s : State) (p : Port) (f : PortRec → PortRec) : (s.onPort p f).manager = s.manager := rfl
@[simp] theorem State.onPort_engineer (s : State) (p : Port) (f : PortRec → PortRec) : (s.onPort p f).engineer = s.engineer := rfl
@[simp] theorem State.onPort_loop (s : State) (p : Port) (f : PortRec → PortRec) : (s.onPort p f).loop = s.loop.setPort p (f (s.loop.port p)) := rfl
@[simp] theorem State.onPort_notices (s : State) (p : Port) (f : PortRec → PortRec) : (s.onPort p f).notices = s.notices := rfl
@[simp] theorem State.onPort_lines (s : State) (p : Port) (f : PortRec → PortRec) : (s.onPort p f).lines = s.lines := rfl
@[simp] theorem State.onPort_zones (s : State) (p : Port) (f : PortRec → PortRec) : (s.onPort p f).zones = s.zones := rfl
@[simp] theorem State.onPort_house (s : State) (p : Port) (f : PortRec → PortRec) : (s.onPort p f).house = s.house := rfl
@[simp] theorem State.onPort_gov (s : State) (p : Port) (f : PortRec → PortRec) : (s.onPort p f).gov = s.gov := rfl
@[simp] theorem State.onPort_travel (s : State) (p : Port) (f : PortRec → PortRec) : (s.onPort p f).travel = s.travel := rfl
@[simp] theorem State.onPort_lights (s : State) (p : Port) (f : PortRec → PortRec) : (s.onPort p f).lights = s.lights := rfl
@[simp] theorem State.onPort_calls (s : State) (p : Port) (f : PortRec → PortRec) : (s.onPort p f).calls = s.calls := rfl
@[simp] theorem State.onPort_panel (s : State) (p : Port) (f : PortRec → PortRec) : (s.onPort p f).panel = s.panel := rfl
@[simp] theorem State.onPort_memory (s : State) (p : Port) (f : PortRec → PortRec) : (s.onPort p f).memory = s.memory := rfl
@[simp] theorem State.onPort_memoryAnswers (s : State) (p : Port) (f : PortRec → PortRec) : (s.onPort p f).memoryAnswers = s.memoryAnswers := rfl
@[simp] theorem State.onPort_now (s : State) (p : Port) (f : PortRec → PortRec) : (s.onPort p f).now = s.now := rfl
@[simp] theorem State.onPort_freeCount (s : State) (p : Port) (f : PortRec → PortRec) : (s.onPort p f).freeCount = s.freeCount := rfl
@[simp] theorem State.onPort_pending (s : State) (p : Port) (f : PortRec → PortRec) : (s.onPort p f).pending = s.pending := rfl

/-! ### State.onDir -/

@[simp] theorem State.onDir_start (s : State) (r : Ring) (f : Direction → Direction) : (s.onDir r f).start = s.start := rfl
@[simp] theorem State.onDir_manager (s : State) (r : Ring) (f : Direction → Direction) : (s.onDir r f).manager = s.manager := rfl
@[simp] theorem State.onDir_engineer (s : State) (r : Ring) (f : Direction → Direction) : (s.onDir r f).engineer = s.engineer := rfl
@[simp] theorem State.onDir_loop (s : State) (r : Ring) (f : Direction → Direction) : (s.onDir r f).loop = s.loop.setDir r (f (s.loop.dir r)) := rfl
@[simp] theorem State.onDir_notices (s : State) (r : Ring) (f : Direction → Direction) : (s.onDir r f).notices = s.notices := rfl
@[simp] theorem State.onDir_lines (s : State) (r : Ring) (f : Direction → Direction) : (s.onDir r f).lines = s.lines := rfl
@[simp] theorem State.onDir_zones (s : State) (r : Ring) (f : Direction → Direction) : (s.onDir r f).zones = s.zones := rfl
@[simp] theorem State.onDir_house (s : State) (r : Ring) (f : Direction → Direction) : (s.onDir r f).house = s.house := rfl
@[simp] theorem State.onDir_gov (s : State) (r : Ring) (f : Direction → Direction) : (s.onDir r f).gov = s.gov := rfl
@[simp] theorem State.onDir_travel (s : State) (r : Ring) (f : Direction → Direction) : (s.onDir r f).travel = s.travel := rfl
@[simp] theorem State.onDir_lights (s : State) (r : Ring) (f : Direction → Direction) : (s.onDir r f).lights = s.lights := rfl
@[simp] theorem State.onDir_calls (s : State) (r : Ring) (f : Direction → Direction) : (s.onDir r f).calls = s.calls := rfl
@[simp] theorem State.onDir_panel (s : State) (r : Ring) (f : Direction → Direction) : (s.onDir r f).panel = s.panel := rfl
@[simp] theorem State.onDir_memory (s : State) (r : Ring) (f : Direction → Direction) : (s.onDir r f).memory = s.memory := rfl
@[simp] theorem State.onDir_memoryAnswers (s : State) (r : Ring) (f : Direction → Direction) : (s.onDir r f).memoryAnswers = s.memoryAnswers := rfl
@[simp] theorem State.onDir_now (s : State) (r : Ring) (f : Direction → Direction) : (s.onDir r f).now = s.now := rfl
@[simp] theorem State.onDir_freeCount (s : State) (r : Ring) (f : Direction → Direction) : (s.onDir r f).freeCount = s.freeCount := rfl
@[simp] theorem State.onDir_pending (s : State) (r : Ring) (f : Direction → Direction) : (s.onDir r f).pending = s.pending := rfl

/-! ### State.settledAs -/

@[simp] theorem State.settledAs_start (u t : State) : (u.settledAs t).start = u.start := rfl
@[simp] theorem State.settledAs_manager (u t : State) : (u.settledAs t).manager = u.manager := rfl
@[simp] theorem State.settledAs_engineer (u t : State) : (u.settledAs t).engineer = u.engineer := rfl
@[simp] theorem State.settledAs_loop (u t : State) : (u.settledAs t).loop = u.loop := rfl
@[simp] theorem State.settledAs_lines (u t : State) : (u.settledAs t).lines = u.lines := rfl
@[simp] theorem State.settledAs_zones (u t : State) : (u.settledAs t).zones = u.zones := rfl
@[simp] theorem State.settledAs_gov (u t : State) : (u.settledAs t).gov = t.gov := rfl
@[simp] theorem State.settledAs_travel (u t : State) : (u.settledAs t).travel = t.travel := rfl
@[simp] theorem State.settledAs_memory (u t : State) : (u.settledAs t).memory = u.memory := rfl
@[simp] theorem State.settledAs_memoryAnswers (u t : State) : (u.settledAs t).memoryAnswers = u.memoryAnswers := rfl
@[simp] theorem State.settledAs_now (u t : State) : (u.settledAs t).now = u.now := rfl
@[simp] theorem State.settledAs_freeCount (u t : State) : (u.settledAs t).freeCount = u.freeCount := rfl
@[simp] theorem State.settledAs_pending (u t : State) : (u.settledAs t).pending = u.pending := rfl
@[simp] theorem State.settledAs_house_view (u t : State) : (u.settledAs t).house.view = u.house.view := rfl
@[simp] theorem State.settledAs_house_firstAlarm (u t : State) : (u.settledAs t).house.firstAlarm = u.house.firstAlarm := rfl
@[simp] theorem State.settledAs_house_flags (u t : State) : (u.settledAs t).house.flags = u.house.flags := rfl
@[simp] theorem State.settledAs_house_phase (u t : State) : (u.settledAs t).house.phase = u.house.phase := rfl
@[simp] theorem State.settledAs_house_phaseSeq (u t : State) : (u.settledAs t).house.phaseSeq = u.house.phaseSeq := rfl
@[simp] theorem State.settledAs_house_phaseOrigin (u t : State) : (u.settledAs t).house.phaseOrigin = u.house.phaseOrigin := rfl
@[simp] theorem State.settledAs_house_curtains (u t : State) : (u.settledAs t).house.curtains = t.house.curtains := rfl
@[simp] theorem State.settledAs_house_level (u t : State) : (u.settledAs t).house.level = t.house.level := rfl
@[simp] theorem State.settledAs_lights_tickDue (u t : State) : (u.settledAs t).lights.tickDue = u.lights.tickDue := rfl
@[simp] theorem State.settledAs_lights_channels (u t : State) : (u.settledAs t).lights.channels = t.lights.channels := rfl
@[simp] theorem State.settledAs_calls_library (u t : State) : (u.settledAs t).calls.library = u.calls.library := rfl
@[simp] theorem State.settledAs_calls_queue (u t : State) : (u.settledAs t).calls.queue = t.calls.queue := rfl
@[simp] theorem State.settledAs_calls_nextStamp (u t : State) : (u.settledAs t).calls.nextStamp = t.calls.nextStamp := rfl
@[simp] theorem State.settledAs_calls_evacuation (u t : State) : (u.settledAs t).calls.evacuation = t.calls.evacuation := rfl
@[simp] theorem State.settledAs_calls_channels (u t : State) : (u.settledAs t).calls.channels = t.calls.channels := rfl
@[simp] theorem State.settledAs_notices_ownSeq (u t : State) : (u.settledAs t).notices.ownSeq = u.notices.ownSeq := rfl
@[simp] theorem State.settledAs_notices_commandSeq (u t : State) : (u.settledAs t).notices.commandSeq = u.notices.commandSeq := rfl
@[simp] theorem State.settledAs_notices_awaiting (u t : State) : (u.settledAs t).notices.awaiting = u.notices.awaiting := rfl
@[simp] theorem State.settledAs_notices_integrity (u t : State) : (u.settledAs t).notices.integrity = u.notices.integrity := rfl
@[simp] theorem State.settledAs_notices_roster (u t : State) : (u.settledAs t).notices.roster = u.notices.roster := rfl
@[simp] theorem State.settledAs_notices_queue (u t : State) : (u.settledAs t).notices.queue = t.notices.queue := rfl
@[simp] theorem State.settledAs_notices_nextAge (u t : State) : (u.settledAs t).notices.nextAge = t.notices.nextAge := rfl
@[simp] theorem State.settledAs_notices_roundCount (u t : State) : (u.settledAs t).notices.roundCount = t.notices.roundCount := rfl
@[simp] theorem State.settledAs_notices_roundDue (u t : State) : (u.settledAs t).notices.roundDue = t.notices.roundDue := rfl
@[simp] theorem State.settledAs_panel_assembler (u t : State) : (u.settledAs t).panel.assembler = u.panel.assembler := rfl
@[simp] theorem State.settledAs_panel_replies (u t : State) : (u.settledAs t).panel.replies = u.panel.replies := rfl
@[simp] theorem State.settledAs_panel_tx (u t : State) : (u.settledAs t).panel.tx = u.panel.tx := rfl
@[simp] theorem State.settledAs_panel_access (u t : State) : (u.settledAs t).panel.access = u.panel.access := rfl
@[simp] theorem State.settledAs_panel_waiting (u t : State) : (u.settledAs t).panel.waiting = u.panel.waiting := rfl
@[simp] theorem State.settledAs_panel_reports (u t : State) : (u.settledAs t).panel.reports = t.panel.reports := rfl
@[simp] theorem State.settledAs_panel_overflow (u t : State) : (u.settledAs t).panel.overflow = t.panel.overflow := rfl

/-! ### Parts of updates that change a block -/

@[simp] theorem State.elapse_tickDue (d : Nat) (s : State) : (s.elapse d).lights.tickDue = s.lights.tickDue := rfl
@[simp] theorem State.elapse_channels (d : Nat) (s : State) :
    (s.elapse d).lights.channels = s.lights.channels.map (LightChannel.elapse s.start.profile.period (s.now + d)) := rfl
@[simp] theorem State.setLight_channels (s : State) (n : Nat) (f : LightChannel → LightChannel) :
    (s.setLight n f).lights.channels = update (fun c => c.number == n) f s.lights.channels := rfl
@[simp] theorem State.setLight_tickDue (s : State) (n : Nat) (f : LightChannel → LightChannel) :
    (s.setLight n f).lights.tickDue = s.lights.tickDue := rfl
@[simp] theorem State.applyLight_channels (s : State) (g : Half) (a : LightAction) :
    (s.applyLight g a).lights.channels = update (fun c => c.addressed g) (fun c => c.act a) s.lights.channels := rfl
@[simp] theorem State.applyLight_tickDue (s : State) (g : Half) (a : LightAction) :
    (s.applyLight g a).lights.tickDue = s.lights.tickDue := rfl
@[simp] theorem State.setPeer_roster (s : State) (n : Nat) (f : Peer → Peer) :
    (s.setPeer n f).notices.roster = update (fun p => p.number == n) f s.notices.roster := rfl
@[simp] theorem State.replying_replies (s : State) (tag kind : Byte) (a : Answer) (d : ReplyData) :
    (s.replying tag kind a d).panel.replies = s.panel.replies ++ [⟨tag, kind, a, d⟩] := rfl

/-! ### The parts of an event -/

@[simp] theorem Ev.on_s (e : Ev) (f : State → State) : (e.on f).s = f e.s := rfl
@[simp] theorem Ev.on_made (e : Ev) (f : State → State) : (e.on f).made = e.made := rfl
@[simp] theorem Ev.on_before (e : Ev) (f : State → State) : (e.on f).before = e.before := rfl
@[simp] theorem Ev.on_dropped (e : Ev) (f : State → State) : (e.on f).dropped = e.dropped := rfl
@[simp] theorem Ev.on_joined (e : Ev) (f : State → State) : (e.on f).joined = e.joined := rfl
@[simp] theorem Ev.report_s (e : Ev) (r : Report) : (e.report r).s = e.s := rfl
@[simp] theorem Ev.report_made (e : Ev) (r : Report) : (e.report r).made = e.made ++ [r] := rfl
@[simp] theorem Ev.report_before (e : Ev) (r : Report) : (e.report r).before = e.before := rfl
@[simp] theorem Ev.report_dropped (e : Ev) (r : Report) : (e.report r).dropped = e.dropped := rfl
@[simp] theorem Ev.report_joined (e : Ev) (r : Report) : (e.report r).joined = e.joined := rfl
@[simp] theorem Ev.reports_s (e : Ev) (rs : List Report) : (e.reports rs).s = e.s := rfl
@[simp] theorem Ev.reports_made (e : Ev) (rs : List Report) : (e.reports rs).made = e.made ++ rs := rfl
@[simp] theorem Ev.reports_before (e : Ev) (rs : List Report) : (e.reports rs).before = e.before := rfl
@[simp] theorem Ev.reports_dropped (e : Ev) (rs : List Report) : (e.reports rs).dropped = e.dropped := rfl
@[simp] theorem Ev.reports_joined (e : Ev) (rs : List Report) : (e.reports rs).joined = e.joined := rfl
@[simp] theorem Ev.start_s (s : State) : (Ev.start s).s = s := rfl
@[simp] theorem Ev.start_made (s : State) : (Ev.start s).made = [] := rfl
@[simp] theorem Ev.start_before (s : State) : (Ev.start s).before = s.gov := rfl
@[simp] theorem Ev.start_dropped (s : State) : (Ev.start s).dropped = false := rfl
@[simp] theorem Ev.start_joined (s : State) : (Ev.start s).joined = false := rfl

/-- Moving the clock on to a due moment is letting some time pass, or none. -/
theorem State.elapseTo_eq_elapse (due : Nat) (s : State) : s.elapseTo due = s.elapse (due - s.now) ∨ s.elapseTo due = s := by
  unfold State.elapseTo
  split
  · exact .inr rfl
  · exact .inl rfl

/-- Where a moment lies ahead, moving on to it lets the time between pass. -/
theorem State.elapseTo_ahead {due : Nat} {s : State} (h : s.now < due) : s.elapseTo due = s.elapse (due - s.now) := by
  unfold State.elapseTo
  rw [if_neg (by omega)]

/-! ### The period counters of the light channels (R153, R155) -/

/-- While the next wrap is not past, time changes nothing of a channel. -/
theorem LightChannel.elapse_early {period now : Nat} {c : LightChannel} (h : now ≤ c.wrapDue) : c.elapse period now = c :=
  if_pos h

/-- All that time can change of a channel: the next wrap and the compare buffer. -/
theorem LightChannel.elapse_only (period now : Nat) (c : LightChannel) :
    ∃ w b, c.elapse period now = { c with wrapDue := w, compareBuf := b } := by
  unfold LightChannel.elapse
  split <;> exact ⟨_, _, rfl⟩

@[simp] theorem LightChannel.elapse_number (period now : Nat) (c : LightChannel) : (c.elapse period now).number = c.number := by
  unfold LightChannel.elapse; split <;> rfl
@[simp] theorem LightChannel.elapse_inUse (period now : Nat) (c : LightChannel) : (c.elapse period now).inUse = c.inUse := by
  unfold LightChannel.elapse; split <;> rfl
@[simp] theorem LightChannel.elapse_group (period now : Nat) (c : LightChannel) : (c.elapse period now).group = c.group := by
  unfold LightChannel.elapse; split <;> rfl
@[simp] theorem LightChannel.elapse_curve (period now : Nat) (c : LightChannel) : (c.elapse period now).curve = c.curve := by
  unfold LightChannel.elapse; split <;> rfl
@[simp] theorem LightChannel.elapse_safety (period now : Nat) (c : LightChannel) : (c.elapse period now).safety = c.safety := by
  unfold LightChannel.elapse; split <;> rfl
@[simp] theorem LightChannel.elapse_floor (period now : Nat) (c : LightChannel) : (c.elapse period now).floor = c.floor := by
  unfold LightChannel.elapse; split <;> rfl
@[simp] theorem LightChannel.elapse_level (period now : Nat) (c : LightChannel) : (c.elapse period now).level = c.level := by
  unfold LightChannel.elapse; split <;> rfl
@[simp] theorem LightChannel.elapse_fade (period now : Nat) (c : LightChannel) : (c.elapse period now).fade = c.fade := by
  unfold LightChannel.elapse; split <;> rfl
@[simp] theorem LightChannel.elapse_override (period now : Nat) (c : LightChannel) : (c.elapse period now).override = c.override := by
  unfold LightChannel.elapse; split <;> rfl
@[simp] theorem LightChannel.elapse_pending (period now : Nat) (c : LightChannel) : (c.elapse period now).pending = c.pending := by
  unfold LightChannel.elapse; split <;> rfl
@[simp] theorem LightChannel.elapse_compareReg (period now : Nat) (c : LightChannel) : (c.elapse period now).compareReg = c.compareReg := by
  unfold LightChannel.elapse; split <;> rfl
@[simp] theorem LightChannel.wrap_number (period : Nat) (c : LightChannel) : (c.wrap period).number = c.number := rfl
@[simp] theorem LightChannel.wrap_inUse (period : Nat) (c : LightChannel) : (c.wrap period).inUse = c.inUse := rfl
@[simp] theorem LightChannel.wrap_group (period : Nat) (c : LightChannel) : (c.wrap period).group = c.group := rfl
@[simp] theorem LightChannel.wrap_curve (period : Nat) (c : LightChannel) : (c.wrap period).curve = c.curve := rfl
@[simp] theorem LightChannel.wrap_safety (period : Nat) (c : LightChannel) : (c.wrap period).safety = c.safety := rfl
@[simp] theorem LightChannel.wrap_floor (period : Nat) (c : LightChannel) : (c.wrap period).floor = c.floor := rfl
@[simp] theorem LightChannel.wrap_level (period : Nat) (c : LightChannel) : (c.wrap period).level = c.level := rfl
@[simp] theorem LightChannel.wrap_fade (period : Nat) (c : LightChannel) : (c.wrap period).fade = c.fade := rfl
@[simp] theorem LightChannel.wrap_override (period : Nat) (c : LightChannel) : (c.wrap period).override = c.override := rfl
@[simp] theorem LightChannel.wrap_pending (period : Nat) (c : LightChannel) : (c.wrap period).pending = c.pending := rfl
@[simp] theorem LightChannel.wrap_compareReg (period : Nat) (c : LightChannel) : (c.wrap period).compareReg = c.compareReg := rfl
@[simp] theorem LightChannel.takePeriod_number (old new : Nat) (c : LightChannel) : (c.takePeriod old new).number = c.number := rfl
@[simp] theorem LightChannel.takePeriod_inUse (old new : Nat) (c : LightChannel) : (c.takePeriod old new).inUse = c.inUse := rfl
@[simp] theorem LightChannel.takePeriod_group (old new : Nat) (c : LightChannel) : (c.takePeriod old new).group = c.group := rfl
@[simp] theorem LightChannel.takePeriod_curve (old new : Nat) (c : LightChannel) : (c.takePeriod old new).curve = c.curve := rfl
@[simp] theorem LightChannel.takePeriod_safety (old new : Nat) (c : LightChannel) : (c.takePeriod old new).safety = c.safety := rfl
@[simp] theorem LightChannel.takePeriod_floor (old new : Nat) (c : LightChannel) : (c.takePeriod old new).floor = c.floor := rfl
@[simp] theorem LightChannel.takePeriod_level (old new : Nat) (c : LightChannel) : (c.takePeriod old new).level = c.level := rfl
@[simp] theorem LightChannel.takePeriod_fade (old new : Nat) (c : LightChannel) : (c.takePeriod old new).fade = c.fade := rfl
@[simp] theorem LightChannel.takePeriod_override (old new : Nat) (c : LightChannel) : (c.takePeriod old new).override = c.override := rfl
@[simp] theorem LightChannel.takePeriod_pending (old new : Nat) (c : LightChannel) : (c.takePeriod old new).pending = c.pending := rfl
@[simp] theorem LightChannel.takePeriod_compareReg (old new : Nat) (c : LightChannel) : (c.takePeriod old new).compareReg = c.compareReg := rfl
@[simp] theorem LightChannel.takePeriod_compareBuf (old new : Nat) (c : LightChannel) : (c.takePeriod old new).compareBuf = c.compareBuf := rfl

/-! ### The internal path of SELF_TEST (R22) -/

/-- A symbol that the receiver cannot hear changes nothing. -/
theorem State.receive_unheard {s : State} {p : Port} {sym : Symbol} (h : s.hears p sym = false) : s.receive p sym = s := by
  simp [State.receive, h]

/-- Outside SELF_TEST a silence timer can expire at its due moment. -/
theorem State.canFallSilent_outside {s : State} (h : s.loop.join ≠ .selfTest) (p : Port) : s.canFallSilent p = true := by
  simp [State.canFallSilent, h]

/-- In SELF_TEST, in GAP, a silence timer can expire only where it is due 10 microseconds before the transmitter is ready. -/
theorem State.canFallSilent_gap {s : State} {p : Port} {ready : Nat} (h : s.loop.join = .selfTest)
    (g : (s.loop.dir (ringInto p)).tx = .gap ready) :
    s.canFallSilent p = decide ((s.loop.port p).silenceDue + symbolMicros ≤ ready) := by
  simp [State.canFallSilent, h, g]

/-- Outside SELF_TEST a receiver hears every symbol of its line. -/
theorem State.hears_outside {s : State} (h : s.loop.join ≠ .selfTest) (p : Port) (sym : Symbol) : s.hears p sym = true := by
  simp [State.hears, h]

/-- Hearing an own frame changes the loop interface alone. -/
theorem State.hearOwn_only (s : State) (ring : Ring) (f : Frame) : ∃ l, s.hearOwn ring f = { s with loop := l } := by
  unfold State.hearOwn
  split
  · exact ⟨_, rfl⟩
  · exact ⟨s.loop, rfl⟩

/-- Outside SELF_TEST no own frame is heard on an internal path. -/
theorem State.hearOwn_outside {s : State} (h : s.loop.join ≠ .selfTest) (ring : Ring) (f : Frame) : s.hearOwn ring f = s :=
  if_neg h

end Sys2Proof.Machine
end

