-- ==== Sys2Proof/Laws/Parts.lean ====
section
/-! SUPPORT. What each operation of an event may change: for every operation one lemma that names all of it. A part is a
relation between the event before and after; parts compose. -/
namespace Sys2Proof.Machine

/-! ### The parts -/

/-- Only the transmit queue and its next age stamp change. -/
def Ev.SendPart (e e' : Ev) : Prop :=
  ∃ q a, e' = { e with s := { e.s with notices := { e.s.notices with queue := q, nextAge := a } } }

/-- Only the tables of the house condition unit change, and reports are made. -/
def Ev.HousePart (e e' : Ev) : Prop :=
  ∃ h m, e' = { e with s := { e.s with house := h }, made := e.made ++ m }

/-- Only the governor, the supervisor and the fault flags change; DROPPING may be entered and reports made. -/
def Ev.CurtainPart (e e' : Ev) : Prop :=
  ∃ g t f m d, e' =
    { e with
      s := { e.s with gov := g, travel := t, house := { e.s.house with flags := f } }
      made := e.made ++ m
      dropped := d }

/-- Only the dispatcher, but for its library, changes, and reports are made. -/
def Ev.CallPart (e e' : Ev) : Prop :=
  ∃ c m, c.library = e.s.calls.library ∧ e' = { e with s := { e.s with calls := c }, made := e.made ++ m }

/-- Only lines, zones, the house condition unit and the transmit queue change, and reports are made. -/
def Ev.ZonePart (e e' : Ev) : Prop :=
  ∃ ls zs h q a m, e' =
    { e with
      s := { e.s with
        lines := { e.s.lines with records := ls }
        zones := zs
        house := h
        notices := { e.s.notices with queue := q, nextAge := a } }
      made := e.made ++ m }

/-! ### Parts compose -/

theorem Ev.SendPart.refl (e : Ev) : e.SendPart e := ⟨_, _, rfl⟩

theorem Ev.SendPart.trans {a b c : Ev} (h : a.SendPart b) (k : b.SendPart c) : a.SendPart c := by
  obtain ⟨q, n, rfl⟩ := h
  obtain ⟨q', n', rfl⟩ := k
  exact ⟨q', n', rfl⟩

theorem Ev.HousePart.refl (e : Ev) : e.HousePart e := ⟨e.s.house, [], by simp⟩

theorem Ev.HousePart.trans {a b c : Ev} (h : a.HousePart b) (k : b.HousePart c) : a.HousePart c := by
  obtain ⟨x, m, rfl⟩ := h
  obtain ⟨x', m', rfl⟩ := k
  exact ⟨x', m ++ m', by simp⟩

theorem Ev.CurtainPart.refl (e : Ev) : e.CurtainPart e := ⟨_, _, _, [], _, by simp; rfl⟩

theorem Ev.CurtainPart.trans {a b c : Ev} (h : a.CurtainPart b) (k : b.CurtainPart c) : a.CurtainPart c := by
  obtain ⟨g, t, f, m, d, rfl⟩ := h
  obtain ⟨g', t', f', m', d', rfl⟩ := k
  exact ⟨g', t', f', m ++ m', d', by simp⟩

theorem Ev.CallPart.refl (e : Ev) : e.CallPart e := ⟨e.s.calls, [], rfl, by simp⟩

theorem Ev.CallPart.trans {a b c : Ev} (h : a.CallPart b) (k : b.CallPart c) : a.CallPart c := by
  obtain ⟨x, m, hx, rfl⟩ := h
  obtain ⟨x', m', hx', rfl⟩ := k
  exact ⟨x', m ++ m', hx'.trans hx, by simp⟩

theorem Ev.ZonePart.refl (e : Ev) : e.ZonePart e := ⟨_, _, _, _, _, [], by simp; rfl⟩

theorem Ev.ZonePart.trans {a b c : Ev} (h : a.ZonePart b) (k : b.ZonePart c) : a.ZonePart c := by
  obtain ⟨ls, zs, x, q, n, m, rfl⟩ := h
  obtain ⟨ls', zs', x', q', n', m', rfl⟩ := k
  exact ⟨ls', zs', x', q', n', m ++ m', by simp⟩

theorem Ev.SendPart.zone {a b : Ev} (h : a.SendPart b) : a.ZonePart b := by
  obtain ⟨q, n, rfl⟩ := h
  exact ⟨a.s.lines.records, a.s.zones, a.s.house, q, n, [], by simp⟩

theorem Ev.HousePart.zone {a b : Ev} (h : a.HousePart b) : a.ZonePart b := by
  obtain ⟨x, m, rfl⟩ := h
  exact ⟨_, _, x, _, _, m, by rfl⟩

/-- What every operation taken over a list keeps within a part, the whole does. -/
theorem Ev.each_part {α : Type} {P : Ev → Ev → Prop} (refl : ∀ e, P e e)
    (trans : ∀ {a b c}, P a b → P b c → P a c) {f : Ev → α → Ev} (step : ∀ e x, P e (f e x)) (l : List α) (e : Ev) :
    P e (e.each l f) := by
  induction l generalizing e with
  | nil => exact refl e
  | cons x rest ih => exact trans (step e x) (ih (f e x))

/-! ### The notice unit -/

/-- An offer that the queue takes changes the queue and its next age stamp alone (R30, R31). -/
theorem Notices.offer_only {ns ns' : Notices} {l : Loop} {n : Notice} (h : ns.offer l n = some ns') :
    ns' = { ns with queue := ns'.queue, nextAge := ns'.nextAge } := by
  unfold Notices.offer at h
  split at h
  · cases h; rfl
  · split at h
    · cases h; rfl
    · split at h
      · cases h; rfl
      · cases h

/-- What sending a notice changes. -/
theorem State.send_only (s : State) (n : Notice) :
    ∃ q a, s.send n = { s with notices := { s.notices with queue := q, nextAge := a } } := by
  unfold State.send
  cases h : s.notices.offer s.loop n with
  | none => exact ⟨s.notices.queue, s.notices.nextAge, rfl⟩
  | some ns => exact ⟨ns.queue, ns.nextAge, by
    rw [Option.getD_some]
    exact congrArg (fun x => { s with notices := x }) (Notices.offer_only h)⟩

theorem Ev.send_part (e : Ev) (n : Notice) : e.SendPart (e.send n) := by
  obtain ⟨q, a, h⟩ := e.s.send_only n
  exact ⟨q, a, by simp only [Ev.send, Ev.on, h]⟩

/-- What a change of the fault flags changes (R94). -/
theorem Ev.setFlags_part (e : Ev) (f : FaultFlags → FaultFlags) : e.CurtainPart (e.setFlags f) := by
  unfold Ev.setFlags
  dsimp only
  split
  · exact .refl e
  · exact ⟨_, _, _, _, _, rfl⟩

theorem Ev.setFlags_house (e : Ev) (f : FaultFlags → FaultFlags) : e.HousePart (e.setFlags f) := by
  unfold Ev.setFlags
  dsimp only
  split
  · exact .refl e
  · exact ⟨_, _, rfl⟩

/-! ### The house condition unit -/

theorem Ev.reportIf_house (e : Ev) (ok : Bool) (r : Report) : e.HousePart (e.reportIf ok r) := by
  unfold Ev.reportIf
  split
  · exact ⟨e.s.house, [r], rfl⟩
  · exact .refl e

/-- A change of the house condition unit alone is one. -/
theorem Ev.on_house (e : Ev) (h : House) : e.HousePart (e.on fun s => { s with house := h }) :=
  ⟨h, [], by simp [Ev.on]⟩

theorem Ev.report_house (e : Ev) (r : Report) : e.HousePart (e.report r) := ⟨e.s.house, [r], rfl⟩

theorem Ev.appendFirst_part (e : Ev) (z : Nat) : e.HousePart (e.appendFirst z) := by
  unfold Ev.appendFirst
  split
  · exact .refl e
  · exact .trans (e.on_house _) (Ev.reportIf_house _ _ _)

theorem Ev.emptyFirst_part (e : Ev) : e.HousePart e.emptyFirst :=
  .trans (e.on_house _) (Ev.reportIf_house _ _ _)

theorem Ev.setView_part (e : Ev) (z : Nat) (f : ViewEntry → ViewEntry) (c : Option Cause)
    (k : Option (HouseCommand × Nat × Byte)) : e.HousePart (e.setView z f c k) := by
  unfold Ev.setView
  split
  · exact .refl e
  · have step := fun v : ViewEntry => Ev.HousePart.trans (e.on_house { e.s.house with
      view := update (fun v => v.zone == z) f e.s.house.view }) (Ev.reportIf_house _ (v.reportable (f v)) (.zone (f v) c k))
    dsimp only
    split
    · exact .trans (step _) (Ev.appendFirst_part _ z)
    · exact step _

theorem Ev.tellView_part (e : Ev) (d : DigestItem) : e.HousePart (e.tellView d) := e.setView_part _ _ _ _

theorem Ev.adoptItem_part (e : Ev) (o : Nat) (d : DigestItem) (c : Option Cause) : e.HousePart (e.adoptItem o d c) := by
  unfold Ev.adoptItem
  split
  · exact .refl e
  · split
    · exact e.setView_part _ _ _ _
    · exact .refl e

theorem Ev.loseOwner_part (e : Ev) (n : Nat) : e.HousePart (e.loseOwner n) :=
  Ev.each_part .refl .trans (fun e _ => e.setView_part _ _ _ _) _ e

theorem Ev.forgetEpochs_part (e : Ev) (n : Nat) : e.HousePart (e.forgetEpochs n) := ⟨_, [], by simp [Ev.forgetEpochs, Ev.on]; rfl⟩

theorem Ev.houseZone_part (e : Ev) (c : HouseCommand) (o : Nat) (q : Byte) : e.HousePart (e.houseZone c o q) :=
  e.setView_part _ _ _ _

theorem Ev.takeCurtain_part (e : Ev) (o : Nat) (m : CurtainSummary) (st : Option Nat) :
    e.HousePart (e.takeCurtain o m st) := by
  unfold Ev.takeCurtain
  split
  · exact .refl e
  · split
    · exact .refl e
    · dsimp only
      split
      · exact .refl e
      · exact ⟨_, _, rfl⟩

theorem Ev.setPresent_part (e : Ev) (n : Nat) (p : Bool) : e.HousePart (e.setPresent n p) :=
  Ev.each_part .refl .trans (fun _ _ => ⟨_, _, rfl⟩) _ e

/-! ### The curtain governor -/

theorem Ev.gov_part (e : Ev) (f : Governor → Governor) : e.CurtainPart (e.gov f) :=
  ⟨f e.s.gov, e.s.travel, e.s.house.flags, [], e.dropped, by simp [Ev.gov, Ev.on]⟩

theorem Ev.travel_part (e : Ev) (f : Travel → Travel) : e.CurtainPart (e.travel f) :=
  ⟨e.s.gov, f e.s.travel, e.s.house.flags, [], e.dropped, by simp [Ev.travel, Ev.on]⟩

theorem Ev.drop_part (e : Ev) : e.CurtainPart e.drop := ⟨_, _, _, [], true, by simp [Ev.drop]; rfl⟩

theorem Ev.rest_part (e : Ev) (st : CurtainState) : e.CurtainPart (e.rest st) :=
  .trans (e.gov_part _) (Ev.travel_part _ _)

theorem Ev.result_part (e : Ev) (r : LastResult) : e.CurtainPart (e.result r) := e.gov_part _

theorem Ev.beginRaise_part (e : Ev) : e.CurtainPart e.beginRaise := .trans (e.gov_part _) (Ev.travel_part _ _)

theorem Ev.endDescent_part (e : Ev) : e.CurtainPart e.endDescent := .trans (e.gov_part _) (Ev.travel_part _ _)

theorem Ev.beginDescent_part (e : Ev) (st : CurtainState) (p : ProofMark) : e.CurtainPart (e.beginDescent st p) := by
  unfold Ev.beginDescent
  dsimp only
  have h := fun f => Ev.CurtainPart.trans (e.gov_part f) (Ev.travel_part _ Travel.startDescent)
  generalize (if e.s.travel.known = true then some e.s.travel.position else none) = start
  have land : ∀ {x : Ev}, e.CurtainPart x → e.CurtainPart (if x.s.gov.pair = .downArrival then x.endDescent else x) := by
    intro x hx
    split
    · exact .trans hx x.endDescent_part
    · exact hx
  apply land
  split
  · exact .trans (h _) (Ev.drop_part _)
  · exact h _

theorem Ev.convertDrop_part (e : Ev) : e.CurtainPart e.convertDrop := .trans (e.gov_part _) (Ev.drop_part _)

theorem Ev.raiseOrUp_part (e : Ev) : e.CurtainPart e.raiseOrUp := by
  unfold Ev.raiseOrUp
  split
  · exact .trans (e.rest_part _) (Ev.result_part _ _)
  · exact e.beginRaise_part

theorem Ev.takeRaise_part (e : Ev) : e.CurtainPart e.takeRaise.1 := by
  unfold Ev.takeRaise
  split
  · exact .trans (e.gov_part _) (Ev.raiseOrUp_part _)
  · exact .trans (e.gov_part _) (Ev.raiseOrUp_part _)
  all_goals exact .refl e

theorem Ev.takeResume_part (e : Ev) : e.CurtainPart e.takeResume.1 := by
  unfold Ev.takeResume
  split
  · exact e.raiseOrUp_part
  all_goals exact .refl e

theorem Ev.takeLower_part (e : Ev) : e.CurtainPart e.takeLower.1 := by
  unfold Ev.takeLower
  split
  · exact .trans (e.result_part _) (Ev.beginDescent_part _ _ _)
  all_goals first | exact e.beginDescent_part _ _ | exact .refl e

theorem Ev.takeStop_part (e : Ev) : e.CurtainPart e.takeStop.1 := by
  unfold Ev.takeStop
  split
  all_goals first | exact .trans (e.rest_part _) (Ev.result_part _ _)

theorem Ev.takeDrop_part (e : Ev) : e.CurtainPart e.takeDrop.1 := by
  unfold Ev.takeDrop
  split
  · exact .trans (e.result_part _) (Ev.beginDescent_part _ _ _)
  all_goals first | exact e.beginDescent_part _ _ | exact e.convertDrop_part | exact .refl e

theorem Ev.takeProof_part (e : Ev) : e.CurtainPart e.takeProof.1 := by
  unfold Ev.takeProof
  split
  · exact e.beginDescent_part _ _
  all_goals exact .refl e

theorem Ev.clearError_part (e : Ev) : e.CurtainPart e.clearError := .trans (e.gov_part _) (Ev.setFlags_part _ _)

theorem Ev.takeClear_part (e : Ev) : e.CurtainPart e.takeClear.1 := by
  unfold Ev.takeClear
  split
  all_goals first | exact e.clearError_part | exact .refl e

theorem Ev.takeRequest_part (e : Ev) (a : CurtainAction) : e.CurtainPart (e.takeRequest a).1 := by
  unfold Ev.takeRequest
  split
  · exact .refl e
  · split
    · exact .refl e
    · cases a
      · exact e.takeLower_part
      · exact e.takeStop_part
      · exact e.takeDrop_part
      · exact e.takeProof_part
      · exact e.takeClear_part

theorem Ev.takeLocal_part (e : Ev) (a : CurtainAction) : e.CurtainPart (e.takeLocal a).1 := by
  unfold Ev.takeLocal
  split
  · exact .refl e
  · exact e.takeRequest_part a

theorem Ev.takeLocalRaise_part (e : Ev) (take : Ev → Ev × Answer) (h : e.CurtainPart (take e).1) :
    e.CurtainPart (e.takeLocalRaise take).1 := by
  unfold Ev.takeLocalRaise
  split
  · exact .refl e
  · split
    · exact .refl e
    · split
      · exact .refl e
      · exact h

theorem Ev.latch_part (e : Ev) (err : CurtainError) : e.CurtainPart (e.latch err) := by
  unfold Ev.latch
  split
  · exact .refl e
  · exact .trans (e.gov_part _) (Ev.setFlags_part _ _)

theorem Ev.stick_part (e : Ev) : e.CurtainPart e.stick :=
  .trans (.trans (e.rest_part _) (Ev.result_part _ _)) (Ev.gov_part _ _)

theorem Ev.takeFinding_part (e : Ev) (f : Finding) : e.CurtainPart (e.takeFinding f) := by
  cases f
  · exact e.latch_part _
  · exact .trans (e.latch_part _) (Ev.stick_part _)
  · exact .trans (.trans (e.latch_part _) (Ev.rest_part _ _)) (Ev.result_part _ _)
  · exact e.latch_part _

theorem Ev.downArrival_part (e : Ev) : e.CurtainPart e.downArrival := by
  unfold Ev.downArrival
  split
  all_goals first
    | exact .trans (e.rest_part _) (Ev.result_part _ _) | exact e.rest_part _ | exact e.endDescent_part

theorem Ev.upArrival_part (e : Ev) : e.CurtainPart e.upArrival := by
  unfold Ev.upArrival
  split
  all_goals first | exact .trans (e.rest_part _) (Ev.result_part _ _) | exact e.rest_part _

theorem Ev.disagree_part (e : Ev) : e.CurtainPart e.disagree := by
  unfold Ev.disagree
  refine .trans (e.latch_part .limitDisagree) ?_
  dsimp only
  split
  · exact .refl _
  · exact .refl _
  · exact .trans (Ev.result_part _ _) (Ev.beginDescent_part _ _ _)
  · exact Ev.beginDescent_part _ _ _
  · exact Ev.beginDescent_part _ _ _
  · exact Ev.beginDescent_part _ _ _
  · exact Ev.convertDrop_part _
  · exact .trans (.trans (Ev.gov_part _ _) (Ev.travel_part _ _)) (Ev.drop_part _)

theorem Ev.limitActs_part (e : Ev) : e.CurtainPart e.limitActs := by
  unfold Ev.limitActs
  split
  · exact e.downArrival_part
  · exact e.upArrival_part
  · exact e.disagree_part
  · exact .refl e

theorem Ev.curtainLevel_part (e : Ev) (level : Nat) : e.CurtainPart (e.curtainLevel level) := by
  unfold Ev.curtainLevel
  split
  · split
    · exact .trans (e.result_part _) (Ev.beginDescent_part _ _ _)
    all_goals first | exact e.beginDescent_part _ _ | exact e.convertDrop_part | exact .refl e
  · split
    · exact .trans (e.rest_part _) (Ev.result_part _ _)
    · exact .refl e

/-! ### The governor and the supervisor alone -/

/-- Only the governor and the supervisor change, and DROPPING may be entered. -/
def Ev.GovPart (e e' : Ev) : Prop :=
  ∃ g t d, e' = { e with s := { e.s with gov := g, travel := t }, dropped := d }

theorem Ev.GovPart.refl (e : Ev) : e.GovPart e := ⟨_, _, _, rfl⟩

theorem Ev.GovPart.trans {a b c : Ev} (h : a.GovPart b) (k : b.GovPart c) : a.GovPart c := by
  obtain ⟨g, t, d, rfl⟩ := h
  obtain ⟨g', t', d', rfl⟩ := k
  exact ⟨g', t', d', rfl⟩

theorem Ev.gov_gov (e : Ev) (f : Governor → Governor) : e.GovPart (e.gov f) := ⟨f e.s.gov, e.s.travel, e.dropped, rfl⟩

theorem Ev.travel_gov (e : Ev) (f : Travel → Travel) : e.GovPart (e.travel f) := ⟨e.s.gov, f e.s.travel, e.dropped, rfl⟩

theorem Ev.drop_gov (e : Ev) : e.GovPart e.drop := ⟨e.s.gov, e.s.travel, true, rfl⟩

theorem Ev.rest_gov (e : Ev) (st : CurtainState) : e.GovPart (e.rest st) := .trans (e.gov_gov _) (Ev.travel_gov _ _)

theorem Ev.result_gov (e : Ev) (r : LastResult) : e.GovPart (e.result r) := e.gov_gov _

theorem Ev.endDescent_gov (e : Ev) : e.GovPart e.endDescent := .trans (e.gov_gov _) (Ev.travel_gov _ _)

theorem Ev.beginDescent_gov (e : Ev) (st : CurtainState) (p : ProofMark) : e.GovPart (e.beginDescent st p) := by
  unfold Ev.beginDescent
  dsimp only
  have h := fun f => Ev.GovPart.trans (e.gov_gov f) (Ev.travel_gov _ Travel.startDescent)
  generalize (if e.s.travel.known = true then some e.s.travel.position else none) = start
  have land : ∀ {x : Ev}, e.GovPart x → e.GovPart (if x.s.gov.pair = .downArrival then x.endDescent else x) := by
    intro x hx
    split
    · exact .trans hx x.endDescent_gov
    · exact hx
  apply land
  split
  · exact .trans (h _) (Ev.drop_gov _)
  · exact h _

theorem Ev.convertDrop_gov (e : Ev) : e.GovPart e.convertDrop := .trans (e.gov_gov _) (Ev.drop_gov _)

/-- A new house level changes governor and supervisor alone (R123). -/
theorem Ev.curtainLevel_gov (e : Ev) (level : Nat) : e.GovPart (e.curtainLevel level) := by
  unfold Ev.curtainLevel
  split
  · split
    · exact .trans (e.result_gov _) (Ev.beginDescent_gov _ _ _)
    all_goals first | exact e.beginDescent_gov _ _ | exact e.convertDrop_gov | exact .refl e
  · split
    · exact .trans (e.rest_gov _) (Ev.result_gov _ _)
    · exact .refl e

/-! ### The zone supervisor -/

theorem Ev.changeZone_part (e : Ev) (z : Nat) (f : ZoneRec → ZoneRec) (c : Cause) : e.ZonePart (e.changeZone z f c) := by
  unfold Ev.changeZone
  split
  · exact .refl e
  · have h : ∀ w, e.ZonePart (e.on fun s => s.setZone z w) := fun w =>
      ⟨e.s.lines.records, update (fun x => x.number == z) (fun _ => w) e.s.zones, e.s.house, e.s.notices.queue,
        e.s.notices.nextAge, [], by simp [Ev.on, State.setZone]⟩
    dsimp only
    split
    · exact h _
    · exact .trans (h _) (.trans (Ev.send_part _ _).zone (Ev.tellView_part _ _).zone)

theorem Ev.reevaluate_part (e : Ev) (z : Nat) (t : LineRec → Bool) : e.ZonePart (e.reevaluate z t) :=
  ⟨update (fun l => l.inZone z && t l) LineRec.reevaluate e.s.lines.records, e.s.zones, e.s.house, e.s.notices.queue,
    e.s.notices.nextAge, [], by simp [Ev.reevaluate, Ev.on]⟩

theorem Ev.report_zone (e : Ev) (r : Report) : e.ZonePart (e.report r) := (e.report_house r).zone

theorem Ev.derive_part (e : Ev) (z : Nat) : e.ZonePart (e.derive z) := by
  unfold Ev.derive
  split
  · exact .refl e
  · exact e.changeZone_part _ _ _

theorem Ev.handover_part (changed : List (LineRec × LineRec)) (e : Ev) (z : Nat) :
    e.ZonePart (Ev.handover changed e z) := by
  unfold Ev.handover
  dsimp only
  split
  · exact .refl e
  · split
    · exact .refl e
    · split
      · exact e.derive_part z
      · exact e.changeZone_part _ _ _

theorem Ev.takeAlert_part (e : Ev) (a : AlertAction) (r : ZoneRec) : e.ZonePart (e.takeAlert a r).1 := by
  cases a
  · simp only [Ev.takeAlert]
    unfold Ev.takeAck
    split
    · split
      · exact .refl e
      · exact .trans (e.changeZone_part _ _ _) (Ev.report_zone _ _)
    · split <;> exact .refl e
  · simp only [Ev.takeAlert]
    unfold Ev.takeConfirm
    split
    · exact e.changeZone_part _ _ _
    · exact .refl e
  · simp only [Ev.takeAlert]
    unfold Ev.takeCancel
    split
    · exact .trans (e.reevaluate_part _ _) (Ev.changeZone_part _ _ _ _)
    · exact .refl e

theorem Ev.deliverAlert_part (e : Ev) (z : Nat) (a : AlertAction) : e.ZonePart (e.deliverAlert z a) := by
  unfold Ev.deliverAlert
  split
  · exact .refl e
  · exact e.takeAlert_part _ _

theorem Ev.silenceZone_part (e : Ev) (z : Nat) : e.ZonePart (e.silenceZone z) := by
  unfold Ev.silenceZone
  split
  · exact .refl e
  · split
    · exact e.changeZone_part _ _ _
    · exact .refl e

theorem Ev.writeIsolation_part (e : Ev) (z : Nat) (r : Option IsolationRec) : e.ZonePart (e.writeIsolation z r) :=
  e.changeZone_part _ _ _

theorem Ev.setIsolated_part (e : Ev) (z : Nat) (i : Bool) (r : Option IsolationRec) : e.ZonePart (e.setIsolated z i r) := by
  unfold Ev.setIsolated
  split
  · exact .refl e
  · split
    · exact e.writeIsolation_part _ _
    · dsimp only
      split
      · exact e.changeZone_part _ _ _
      · exact .trans (e.reevaluate_part _ _) (Ev.changeZone_part _ _ _ _)

theorem Ev.isolationReport_part (e : Ev) (z : Nat) (v : IsolationEvent) (r : IsolationRec) :
    e.ZonePart (e.isolationReport z v r) := e.report_zone _

theorem Ev.warnIsolation_part (e : Ev) (z : Nat) (r : IsolationRec) : e.ZonePart (e.warnIsolation z r) :=
  .trans (e.writeIsolation_part _ _) (Ev.isolationReport_part _ _ _ _)

theorem Ev.makeIsolation_part (e : Ev) (zone : ZoneRec) (r : IsolationRec) : e.ZonePart (e.makeIsolation zone r) := by
  have warn : ∀ {x : Ev}, e.ZonePart x → e.ZonePart (match r.expiry with
      | none => x
      | some due => if due ≤ x.s.now + warningMicros then x.warnIsolation zone.number r else x) := by
    intro x hx
    split
    · exact hx
    · split
      · exact .trans hx (x.warnIsolation_part _ _)
      · exact hx
  apply warn
  split
  · exact .trans (e.writeIsolation_part _ _) (Ev.isolationReport_part _ _ _ _)
  · exact .trans (e.setIsolated_part _ _ _) (Ev.isolationReport_part _ _ _ _)

theorem Ev.endIsolation_part (e : Ev) (z : Nat) (why : EndReason) : e.ZonePart (e.endIsolation z why) := by
  unfold Ev.endIsolation
  split
  · exact .refl e
  · split
    · exact .refl e
    · exact .trans (e.setIsolated_part _ _ _) (Ev.isolationReport_part _ _ _ _)

theorem Ev.endShow_part (e : Ev) (z : Nat) : e.ZonePart (e.endShow z) := by
  unfold Ev.endShow
  split
  · exact .refl e
  · split
    · exact .refl e
    · split
      · exact e.endIsolation_part _ _
      · exact .refl e

theorem Ev.suspendZone_part (e : Ev) (z : Nat) : e.ZonePart (e.suspendZone z) := by
  unfold Ev.suspendZone
  split
  · exact .refl e
  · split
    · exact .refl e
    · exact .trans (e.setIsolated_part _ _ _) (Ev.isolationReport_part _ _ _ _)

theorem Ev.restoreZone_part (e : Ev) (z : Nat) : e.ZonePart (e.restoreZone z) := by
  unfold Ev.restoreZone
  split
  · exact .refl e
  · split
    · exact .refl e
    · exact .trans (e.setIsolated_part _ _ _) (Ev.isolationReport_part _ _ _ _)

theorem Ev.resetZone_part (e : Ev) (z : Nat) : e.ZonePart (e.resetZone z) := by
  unfold Ev.resetZone
  split
  · exact .refl e
  · dsimp only
    split
    · exact .trans (e.reevaluate_part _ _) (Ev.changeZone_part _ _ _ _)
    · exact .trans (.trans (e.reevaluate_part _ _) (Ev.changeZone_part _ _ _ _)) (Ev.isolationReport_part _ _ _ _)

theorem Ev.takeIsolate_part (e : Ev) (z k : Byte) (m : Option Half) : e.ZonePart (e.takeIsolate z k m).1 := by
  unfold Ev.takeIsolate
  split
  · exact .refl e
  · split
    · exact .refl e
    · split
      · exact .refl e
      · split
        · exact .refl e
        · split
          · exact .refl e
          · split
            · exact .refl e
            · split
              · exact .refl e
              · split
                · exact .refl e
                · exact e.makeIsolation_part _ _

theorem Ev.takeDeisolate_part (e : Ev) (z : Byte) : e.ZonePart (e.takeDeisolate z).1 := by
  unfold Ev.takeDeisolate
  split
  · exact .refl e
  · split
    · exact .refl e
    · split
      · exact .refl e
      · split
        · exact .refl e
        · exact e.endIsolation_part _ _

theorem Ev.applyHouse_part (e : Ev) (c : HouseCommand) (o : Nat) (q : Byte) : e.ZonePart (e.applyHouse c o q) := by
  cases c
  · exact (e.houseZone_part _ _ _).zone
  · exact .trans (e.houseZone_part _ _ _).zone
      (Ev.each_part .refl .trans (fun e z => e.silenceZone_part z) _ _)
  · exact .trans (Ev.HousePart.zone (.trans e.emptyFirst_part (Ev.houseZone_part _ _ _ _)))
      (Ev.each_part .refl .trans (fun e z => e.resetZone_part z) _ _)

/-! ### The call dispatcher

What no operation of the dispatcher changes: its library, and what each channel is. -/

/-- Library and channels are the same but for what the channels do. -/
def Calls.Like (c c' : Calls) : Prop :=
  c'.library = c.library
  ∧ c'.channels.map (fun d => (d.number, d.inUse, d.area, d.evacuation))
    = c.channels.map fun d => (d.number, d.inUse, d.area, d.evacuation)

theorem Calls.Like.refl (c : Calls) : c.Like c := ⟨rfl, rfl⟩

theorem Calls.Like.trans {a b c : Calls} (h : a.Like b) (k : b.Like c) : a.Like c :=
  ⟨k.1.trans h.1, k.2.trans h.2⟩

/-- Operations taken one after another over a list. -/
theorem Calls.Like.foldl {α : Type} {f : Calls → α → Calls} (h : ∀ (c : Calls) (x : α), c.Like (f c x)) (l : List α) (c : Calls) :
    c.Like (l.foldl f c) := by
  induction l generalizing c with
  | nil => exact .refl c
  | cons x rest ih => exact .trans (h c x) (ih _)

/-- A change of channels that leaves what they are. -/
theorem update_same {α β : Type} (g : α → β) (test : α → Bool) (f : α → α) (l : List α) (h : ∀ x, g (f x) = g x) :
    (update test f l).map g = l.map g := by
  unfold update
  rw [List.map_map]
  apply List.map_congr_left
  intro x _
  dsimp only [Function.comp]
  split
  · exact h x
  · rfl

theorem Calls.setRecord_like (c : Calls) (n : Nat) (f : CallRec → CallRec) : c.Like (c.setRecord n f) := by
  unfold Calls.setRecord
  split <;> exact ⟨rfl, rfl⟩

theorem Calls.setChannel_like (c : Calls) (k : Nat) (f : DispatchChannel → DispatchChannel)
    (h : ∀ d, ((f d).number, (f d).inUse, (f d).area, (f d).evacuation) = (d.number, d.inUse, d.area, d.evacuation)) :
    c.Like (c.setChannel k f) :=
  ⟨rfl, update_same _ _ _ _ h⟩

theorem Calls.bind_like (c : Calls) (now : Nat) (r : CallRec) (area k : Nat) : c.Like (c.bind now r area k) :=
  .trans (c.setChannel_like k _ (by intro _; rfl)) (Calls.setRecord_like _ _ _)

theorem Calls.displace_like (c : Calls) (k : Nat) : c.Like (c.displace k) := by
  unfold Calls.displace
  split
  · exact .refl c
  · split
    · exact .refl c
    · exact c.setRecord_like _ _

theorem Calls.unbind_like (c : Calls) (n : Nat) : c.Like (c.unbind n) := by
  have h := Calls.Like.foldl (f := fun c (d : DispatchChannel) => c.displace d.number) (fun c d => c.displace_like _)
    (c.channels.filter fun d => d.bound == some n) c
  exact .trans h ⟨rfl, update_same _ _ _ _ (by intro _; rfl)⟩

theorem Calls.remove_like (c : Calls) (n : Nat) : c.Like (c.remove n) := ⟨rfl, update_same _ _ _ _ (by intro _; rfl)⟩

theorem Calls.placeItems_like (now area : Nat) (l : List Nat) (c : Calls) : c.Like (Calls.placeItems now area l c) := by
  induction l generalizing c with
  | nil => exact .refl c
  | cons n rest ih =>
    unfold Calls.placeItems
    split
    · exact .refl c
    · split
      · exact .trans (c.bind_like _ _ _ _) (ih _)
      · split
        · exact .trans (.trans (c.displace_like _) (Calls.bind_like _ _ _ _ _)) (ih _)
        · exact .refl c

theorem Calls.arbitrate_like (level now : Nat) (c : Calls) (area : Nat) : c.Like (Calls.arbitrate level now c area) :=
  Calls.placeItems_like _ _ _ _

theorem Calls.arbitrateAll_like (level now : Nat) (areas : List Nat) (c : Calls) :
    c.Like (Calls.arbitrateAll level now areas c) :=
  Calls.Like.foldl (fun c a => c.arbitrate_like level now a) areas c

theorem Calls.withStamp_like (c : Calls) : c.Like c.withStamp := by
  unfold Calls.withStamp
  split <;> exact ⟨rfl, rfl⟩

theorem Calls.make_like (level now origin : Nat) (d : CallDef) (areas : List Nat) (c : Calls) :
    c.Like (c.make level now origin d areas).1 :=
  .trans c.withStamp_like (.trans ⟨rfl, rfl⟩ (Calls.arbitrateAll_like _ _ _ _))

theorem Calls.refresh_like (level now origin : Nat) (d : CallDef) (areas : List Nat) (r : CallRec) (c : Calls) :
    c.Like (c.refresh level now origin d areas r) := by
  unfold Calls.refresh
  dsimp only
  refine .trans ?_ (Calls.arbitrateAll_like _ _ _ _)
  have keep : ∀ {x : Calls} {ok : Prop} [Decidable ok], c.Like x → c.Like (if ok then x else x.unbind d.number) := by
    intro x ok _ hx
    split
    · exact hx
    · exact .trans hx (Calls.unbind_like _ _)
  apply keep
  refine ⟨rfl, ?_⟩
  refine Eq.trans (update_same _ _ _ _ ?_) (update_same _ _ _ _ ?_)
  · intro _; rfl
  · intro _; rfl

theorem Calls.apply_like (level now origin : Nat) (d : CallDef) (c : Calls) : c.Like (c.apply level now origin d).1 := by
  unfold Calls.apply
  dsimp only
  split
  · exact .refl c
  · split
    · exact .trans (c.remove_like _) (Calls.arbitrateAll_like _ _ _ _)
    · split
      · exact c.refresh_like _ _ _ _ _ _
      · split
        · exact c.make_like _ _ _ _ _
        · split
          · exact .trans (c.remove_like _) (Calls.make_like _ _ _ _ _ _)
          · exact .refl c

theorem Calls.finish_like (level now n : Nat) (o : CallOutcome) (c : Calls) : c.Like (c.finish level now n o).1 := by
  unfold Calls.finish
  split
  · exact .refl c
  · exact .trans (c.remove_like _) (Calls.arbitrateAll_like _ _ _ _)

theorem Calls.release_like (level now : Nat) (c : Calls) (d : DispatchChannel) (r : CallRec) :
    c.Like (c.release level now d r).1 := by
  unfold Calls.release
  dsimp only
  have h : c.Like (Calls.arbitrate level now ((c.setChannel d.number DispatchChannel.free).setRecord r.number fun q =>
      q.setItem d.area fun i => { i with remaining := 0, channel := none }) d.area) :=
    .trans (.trans (c.setChannel_like _ _ (by intro _; rfl)) (Calls.setRecord_like _ _ _)) (Calls.arbitrate_like _ _ _ _)
  split
  · exact h
  · split
    · exact .trans h (Calls.remove_like _ _)
    · exact h

theorem Calls.endChime_like (level now : Nat) (c : Calls) (d : DispatchChannel) (r : CallRec) :
    c.Like (c.endChime level now d r).1 := by
  unfold Calls.endChime
  dsimp only
  split
  · exact c.release_like _ _ _ _
  · have h := c.setChannel_like d.number (fun x => { x with count := countAfter d.count }) (by intro _; rfl)
    split
    · exact .trans h (.trans (Calls.displace_like _ _) (Calls.bind_like _ _ _ _ _))
    · split
      · exact .trans h (Calls.setChannel_like _ _ _ (by intro _; rfl))
      · exact .trans h (Calls.setChannel_like _ _ _ (by intro _; rfl))

theorem Calls.takeLevel_like (station now old new : Nat) (c : Calls) : c.Like (c.takeLevel station now old new).1 := by
  unfold Calls.takeLevel
  dsimp only
  generalize (old == 5 && new != 5 && c.evacuation.isSome) = withdrawn
  have h1 : c.Like (if withdrawn = true then c.remove 0 else c) := by
    split
    · exact c.remove_like 0
    · exact .refl c
  generalize (if withdrawn = true then c.remove 0 else c) = c1 at h1 ⊢
  generalize (List.filter (fun r => !r.eligible new && !r.unbound) c1.queue).map CallRec.number = silenced
  have h2 : c.Like (silenced.foldl Calls.unbind c1) := .trans h1 (Calls.Like.foldl Calls.unbind_like _ _)
  generalize silenced.foldl Calls.unbind c1 = c2 at h2 ⊢
  have h3 := h2.trans (Calls.Like.foldl Calls.remove_like
    ((c2.queue.filter fun r => !r.eligible new && r.dropOnAlarm).map CallRec.number) c2)
  generalize ((c2.queue.filter fun r => !r.eligible new && r.dropOnAlarm).map CallRec.number).foldl Calls.remove c2 = c3
    at h3 ⊢
  have h4 : c.Like (if (new == 5 && c3.evacuation.isNone) = true then c3.makeEvacuation station else (c3, [])).1 := by
    split
    · exact h3.trans (.trans c3.withStamp_like ⟨rfl, rfl⟩)
    · exact h3
  split
  · exact h4.trans (Calls.arbitrateAll_like _ _ _ _)
  · exact h4

/-- What an operation of the dispatcher changes within an event. -/
theorem Ev.calls_part (e : Ev) (f : Nat → Nat → Calls → Calls × List Report)
    (h : e.s.calls.Like (f e.s.house.level e.s.now e.s.calls).1) : e.CallPart (e.calls f) :=
  ⟨(f e.s.house.level e.s.now e.s.calls).1, (f e.s.house.level e.s.now e.s.calls).2, h.1, rfl⟩

theorem Ev.applyCall_part (e : Ev) (o : Nat) (d : CallDef) : e.CallPart (e.applyCall o d) :=
  e.calls_part _ (Calls.apply_like _ _ _ _ _)

theorem Ev.phaseCall_part (e : Ev) (p : Phase) : e.CallPart (e.phaseCall p) := by
  unfold Ev.phaseCall
  split
  · exact .refl e
  · exact e.applyCall_part _ _

/-- The warning call is applied here and offered to the peers, or nothing is done (R129). -/
theorem Ev.warningCall_part (e : Ev) : ∃ e', e.CallPart e' ∧ e'.SendPart e.warningCall := by
  unfold Ev.warningCall
  split
  · exact ⟨e, .refl e, .refl e⟩
  · exact ⟨_, e.applyCall_part _ _, Ev.send_part _ _⟩

/-! ### The fade engine -/

/-- What a change of every channel changes within an event. -/
theorem Ev.lights_only (e : Ev) (f : LightChannel → LightChannel) :
    e.lights f =
      { e with
        s := { e.s with lights := { e.s.lights with channels := e.s.lights.channels.map f } }
        made := e.made ++ overrideReports f e.s.lights.channels } := rfl

end Sys2Proof.Machine
end

