-- ==== Sys2Proof/Laws/Ends.lean ====
section
/-! SUPPORT. What the end of an event leaves: the house level as the view and the flags give it, the own curtain entry as
the governor holds it, and, where neither has anything to tell, the event's state with its reports in the buffer. -/
namespace Sys2Proof.Machine

/-! ### The steps of an event's end -/

/-- The computed level reads the view and the flags alone. -/
theorem House.computedLevel_congr {h k : House} (v : h.view = k.view) (f : h.flags = k.flags) :
    h.computedLevel = k.computedLevel := by
  unfold House.computedLevel
  rw [v, f]

theorem ViewEntry.level_le (v : ViewEntry) : v.level ≤ 5 := by
  unfold ViewEntry.level
  cases v.state <;> simp only [ZoneState.level] <;> split <;> omega

theorem viewLevel_le (view : List ViewEntry) : viewLevel view ≤ 5 := by
  induction view with
  | nil => exact Nat.zero_le 5
  | cons v rest ih => exact Nat.max_le.2 ⟨v.level_le, ih⟩

/-- No house level is above 5. -/
theorem House.computedLevel_le (h : House) : h.computedLevel ≤ 5 := by
  refine Nat.max_le.2 ⟨viewLevel_le _, ?_⟩
  unfold FaultFlags.level
  split <;> omega

/-- Reports change the report buffer alone. -/
theorem Panel.addReports_only (p : Panel) (made : List Report) :
    ∃ r o, p.addReports made = { p with reports := r, overflow := o } := by
  unfold Panel.addReports
  generalize inOrder Report.notAfter made = l
  induction l generalizing p with
  | nil => exact ⟨p.reports, p.overflow, rfl⟩
  | cons x rest ih =>
    rw [List.foldl_cons]
    obtain ⟨r, o, h⟩ := ih (p.addReport x)
    refine ⟨r, o, ?_⟩
    rw [h]
    unfold Panel.addReport
    split <;> rfl

/-- What a new level handed on changes (R95): the governor and the supervisor, the channels, the call records. -/
theorem Ev.handLevel_only (x : Ev) (n old : Nat) :
    ∃ g t cs c m d, c.library = x.s.calls.library ∧
      (let y := x.curtainLevel n
       let y := y.lights (LightChannel.takeLevel y.s.start.profile.overrideTime n)
       y.calls fun _ now c => c.takeLevel y.s.start.station now old n) =
      { x with
        s := { x.s with gov := g, travel := t, lights := { x.s.lights with channels := cs }, calls := c }
        made := x.made ++ m
        dropped := d } := by
  obtain ⟨g, t, d, hg⟩ := x.curtainLevel_gov n
  generalize x.curtainLevel n = y at hg ⊢
  dsimp only
  generalize hz : y.lights (LightChannel.takeLevel y.s.start.profile.overrideTime n) = z
  rw [Ev.lights_only] at hz
  obtain ⟨c, m, hc, h⟩ := z.calls_part (fun _ now c => c.takeLevel z.s.start.station now old n)
    (Calls.takeLevel_like _ _ _ _ _)
  generalize (overrideReports _ _) = o at hz
  refine ⟨g, t, z.s.lights.channels, c, o ++ m, d, ?_, ?_⟩
  · rw [hc]; subst hz hg; rfl
  · rw [h, ← List.append_assoc]; subst hz hg; rfl

/-- The level's step changes the level and what hears of it (R95). -/
theorem Ev.levelStep_only (e : Ev) :
    ∃ g t cs c m d, c.library = e.s.calls.library ∧ e.levelStep =
      { e with
        s := { e.s with
          house := { e.s.house with level := e.s.house.computedLevel }
          gov := g
          travel := t
          lights := { e.s.lights with channels := cs }
          calls := c }
        made := e.made ++ m
        dropped := d } := by
  unfold Ev.levelStep
  dsimp only
  split
  · next same =>
    refine ⟨e.s.gov, e.s.travel, e.s.lights.channels, e.s.calls, [], e.dropped, rfl, ?_⟩
    rw [same]
    simp
  · generalize hx : Ev.report (e.on fun s => { s with house := { s.house with level := e.s.house.computedLevel } })
      (.level e.s.house.level e.s.house.computedLevel) = x
    obtain ⟨g, t, cs, c, m, d, hc, h⟩ := x.handLevel_only e.s.house.computedLevel e.s.house.level
    refine ⟨g, t, cs, c, .level e.s.house.level e.s.house.computedLevel :: m, d, ?_, ?_⟩
    · subst hx; exact hc
    · refine h.trans ?_
      subst hx
      simp [Ev.report, Ev.on]

/-- After the level's step the level is the computed one. -/
theorem Ev.levelStep_level (e : Ev) : e.levelStep.s.house.level = e.levelStep.s.house.computedLevel := by
  obtain ⟨g, t, cs, c, m, d, _, h⟩ := e.levelStep_only
  rw [h]
  exact House.computedLevel_congr rfl rfl

/-- An event that left the level as it is skips the level's step. -/
theorem Ev.levelStep_same {e : Ev} (h : e.s.house.level = e.s.house.computedLevel) : e.levelStep = e := by
  unfold Ev.levelStep
  dsimp only
  rw [if_pos h.symm]

/-- Telling the own entry changes the curtain table alone, and makes a report. -/
theorem Ev.tellEntry_only (e : Ev) :
    ∃ cs m, e.tellEntry =
      { e with s := { e.s with house := { e.s.house with curtains := cs } }, made := e.made ++ m } := by
  unfold Ev.tellEntry
  split
  · exact ⟨e.s.house.curtains, [], by simp⟩
  · dsimp only
    split
    · exact ⟨e.s.house.curtains, [], by simp⟩
    · exact ⟨_, _, rfl⟩

/-- The telling step changes the curtain table and the transmit queue alone (R128). -/
theorem Ev.tellStep_only (e : Ev) :
    ∃ cs q a m, e.tellStep =
      { e with
        s := { e.s with
          house := { e.s.house with curtains := cs }
          notices := { e.s.notices with queue := q, nextAge := a } }
        made := e.made ++ m } := by
  unfold Ev.tellStep
  split
  · obtain ⟨cs, m, h⟩ := e.tellEntry_only
    dsimp only
    rw [h]
    split
    · obtain ⟨q, a, k⟩ := Ev.send_part { e with
        s := { e.s with house := { e.s.house with curtains := cs } }, made := e.made ++ m } (.curtain
          (State.ownSummary { e.s with house := { e.s.house with curtains := cs } })
          (damperOutput e.s.gov e.s.travel))
      exact ⟨cs, q, a, m, by rw [k]⟩
    · exact ⟨cs, e.s.notices.queue, e.s.notices.nextAge, m, rfl⟩
  · exact ⟨e.s.house.curtains, e.s.notices.queue, e.s.notices.nextAge, [], by simp⟩

/-- The warning step changes the dispatcher and the transmit queue alone (R129). -/
theorem Ev.warnStep_only (e : Ev) :
    ∃ c q a m, c.library = e.s.calls.library ∧ e.warnStep =
      { e with
        s := { e.s with
          calls := c
          notices := { e.s.notices with queue := q, nextAge := a } }
        made := e.made ++ m } := by
  unfold Ev.warnStep
  split
  · obtain ⟨e', ⟨c, m, hc, rfl⟩, q, a, h⟩ := e.warningCall_part
    exact ⟨c, q, a, m, hc, h⟩
  · exact ⟨e.s.calls, e.s.notices.queue, e.s.notices.nextAge, [], rfl, by simp⟩

/-- A round changes the transmit queue and the round count and timer alone (R42). -/
theorem State.round_only (s : State) (t : Nat) :
    ∃ q a, s.round t = { s with notices := { s.notices with
      queue := q, nextAge := a, roundCount := min 4 (s.notices.roundCount + 1), roundDue := some (t + roundMicros) } } := by
  unfold State.round
  dsimp only
  obtain ⟨q, a, h⟩ := State.send_only { s with notices := { s.notices with
    roundCount := min 4 (s.notices.roundCount + 1), roundDue := some (t + roundMicros) } } (.presence (State.presence
      { s with notices := { s.notices with
        roundCount := min 4 (s.notices.roundCount + 1), roundDue := some (t + roundMicros) } }
      (decide (min 4 (s.notices.roundCount + 1) ≤ 3))))
  exact ⟨q, a, h⟩

theorem Ev.roundStep_only (e : Ev) :
    ∃ q a n d, e.roundStep =
      { e with s := { e.s with notices := { e.s.notices with queue := q, nextAge := a, roundCount := n, roundDue := d } } } := by
  unfold Ev.roundStep
  split
  · obtain ⟨q, a, h⟩ := e.s.round_only e.s.now
    exact ⟨q, a, _, _, congrArg (fun s => { e with s := s }) h⟩
  · exact ⟨_, _, _, _, rfl⟩

/-! ### The end as a whole -/

/-- The end of an event changes only the parts that settledAs names. -/
theorem Ev.finish_settledAs (e : Ev) : e.finish = e.s.settledAs e.finish := by
  obtain ⟨g, t, cs, c, m, d, hc, h1⟩ := e.levelStep_only
  obtain ⟨cu, q, a, m2, h2⟩ := e.levelStep.tellStep_only
  obtain ⟨c3, q3, a3, m3, hc3, h3⟩ := e.levelStep.tellStep.warnStep_only
  obtain ⟨q4, a4, n4, d4, h4⟩ := e.levelStep.tellStep.warnStep.roundStep_only
  obtain ⟨r, o, h5⟩ := e.settle.s.panel.addReports_only e.settle.made
  have hl : c3.library = e.s.calls.library := by rw [hc3, h2, h1]; exact hc
  unfold Ev.finish Ev.buffer
  rw [h5]
  unfold Ev.settle
  rw [h4, h3, h2, h1]
  simp only [State.settledAs]
  rw [← hl]

/-- After an event the level law holds (R95). -/
theorem Ev.finish_levelLaw (e : Ev) : e.finish.LevelLaw := by
  obtain ⟨cu, q, a, m2, h2⟩ := e.levelStep.tellStep_only
  obtain ⟨c3, q3, a3, m3, hc3, h3⟩ := e.levelStep.tellStep.warnStep_only
  obtain ⟨q4, a4, n4, d4, h4⟩ := e.levelStep.tellStep.warnStep.roundStep_only
  have h : e.finish.house.level = e.finish.house.computedLevel := by
    unfold Ev.finish Ev.buffer Ev.settle
    rw [h4, h3, h2]
    exact e.levelStep_level.trans (House.computedLevel_congr rfl rfl)
  exact ⟨h, h ▸ House.computedLevel_le _⟩

/-- Looking up a record by its number after the records of that number became one record of that number. -/
theorem find?_update_const {α : Type} (p : α → Bool) (x : α) (hx : p x = true) (l : List α) (y : α)
    (h : (update p (fun _ => x) l).find? p = some y) : y = x := by
  induction l with
  | nil => cases h
  | cons a rest ih =>
    simp only [update, List.map_cons, List.find?_cons] at h
    by_cases ha : p a = true
    · rw [if_pos ha, hx] at h
      exact (Option.some.inj h).symm
    · rw [if_neg ha] at h
      rw [Bool.not_eq_true] at ha
      rw [ha] at h
      exact ih h

/-- After the own entry is told, it is as the governor holds it. -/
theorem Ev.tellEntry_own (e : Ev) : ∀ c, e.tellEntry.s.curtain? e.tellEntry.s.gov.curtain = some c →
    c = c.take e.tellEntry.s.start.station e.tellEntry.s.ownSummary true := by
  intro c h
  unfold Ev.tellEntry at h ⊢
  split at h
  · next hn => rw [hn] at h; cases h
  · next k hk =>
    dsimp only at h ⊢
    split at h
    · next same =>
      rw [if_pos same]
      rw [Bool.and_eq_true, decide_eq_true_eq] at same
      rw [hk] at h
      cases h
      exact same.1.symm
    · next other =>
      rw [if_neg other]
      have hn : (k.take e.s.start.station e.s.ownSummary true).curtain = e.s.gov.curtain := by
        have := List.find?_some hk
        exact eq_of_beq this
      have := find?_update_const (fun x : CurtainEntry => x.curtain == e.s.gov.curtain)
        (k.take e.s.start.station e.s.ownSummary true) (by simpa using hn) e.s.house.curtains c h
      rw [this]
      rfl

/-- After an event the own curtain entry tells what the governor holds (R97, R128). -/
theorem Ev.finish_ownEntryLaw (e : Ev) : e.finish.OwnEntryLaw := by
  obtain ⟨c3, q3, a3, m3, hc3, h3⟩ := e.levelStep.tellStep.warnStep_only
  obtain ⟨q4, a4, n4, d4, h4⟩ := e.levelStep.tellStep.warnStep.roundStep_only
  have tell : e.levelStep.tellStep.s.OwnEntryLaw := by
    generalize e.levelStep = e
    intro has
    unfold Ev.tellStep at has ⊢
    split at has
    · next yes =>
      rw [if_pos yes]
      dsimp only at has ⊢
      split
      · obtain ⟨q, a, k⟩ := e.tellEntry.send_part
          (.curtain e.tellEntry.s.ownSummary (damperOutput e.tellEntry.s.gov e.tellEntry.s.travel))
        rw [k]
        exact e.tellEntry_own
      · exact e.tellEntry_own
    · next no => exact absurd has no
  unfold Ev.finish Ev.buffer Ev.settle
  rw [h4, h3]
  exact tell

/-- After an event nothing waits to be told. -/
theorem Ev.finish_isQuiet (e : Ev) : e.finish.Quiet := ⟨e.finish_levelLaw, e.finish_ownEntryLaw⟩

/-- An event that leaves the level as it is and the governor as it found it ends with its reports in the buffer, and
nothing else: the end of a quiet event. -/
theorem Ev.finish_quiet {e : Ev} (level : e.s.house.level = e.s.house.computedLevel) (own : e.s.OwnEntryLaw)
    (gov : e.before = e.s.gov) (drop : e.dropped = false) (join : e.joined = false) :
    e.finish = e.s.reporting e.made := by
  have tell : e.tellStep = e := by
    have un : e.curtainChanged = false := by simp [Ev.curtainChanged, gov]
    have mo : e.motionUnchanged = true := by simp [Ev.motionUnchanged, gov]
    have en : e.s.hasCurtain = true → e.tellEntry = e := by
      intro has
      unfold Ev.tellEntry
      split
      · rfl
      · next c hc =>
        dsimp only
        rw [if_pos]
        rw [mo, Bool.and_true, decide_eq_true_eq]
        exact (own has c hc).symm
    unfold Ev.tellStep
    split
    · next has =>
      dsimp only
      rw [en has, un]
      rfl
    · rfl
  unfold Ev.finish Ev.settle
  rw [Ev.levelStep_same level, tell]
  have warn : e.warnStep = e := by
    unfold Ev.warnStep
    rw [if_neg (by simp [drop])]
  rw [warn]
  unfold Ev.roundStep
  rw [if_neg (by simp [join])]
  rfl

/-! ### What the end of an event does to the calls -/

/-- The level it had forces no drop (R123). -/
@[simp] theorem State.forcesDrop_same (s : State) : s.forcesDrop s.house.level = false := by simp [State.forcesDrop]

/-- At the level it had, and without an entry into DROPPING, the dispatcher holds its calls. -/
@[simp] theorem State.callsAfter_same (s : State) : s.callsAfter s.house.level false = s.calls := by
  cases h : s.definition? s.start.profile.warningCall <;> simp [State.callsAfter, h]

/-- Without an entry into DROPPING, a new level is taken and nothing else (R178). -/
theorem State.callsAfter_level {s : State} {level : Nat} (h : level ≠ s.house.level) :
    s.callsAfter level false = (s.calls.takeLevel s.start.station s.now s.house.level level).1 := by
  cases g : s.definition? s.start.profile.warningCall <;> simp [State.callsAfter, g, h]

/-- At the level it had, an entry into DROPPING applies the warning call (R129). -/
theorem State.callsAfter_dropped {s : State} {d : CallDef} (h : s.definition? s.start.profile.warningCall = some d) :
    s.callsAfter s.house.level true = (s.calls.apply s.house.level s.now s.start.station d).1 := by
  simp [State.callsAfter, h]

end Sys2Proof.Machine
end

