-- ==== Sys2Proof/Laws/Memory.lean ====
section
/-! SUPPORT. The configuration memory: a write keeps the canonical form, a read after a write to the same address gives the
value written, and every other address reads as before (R195, log 5). -/
namespace Sys2Proof.Machine

/-- The canonical form above a bound holds above every lower bound. -/
theorem Memory.wfFrom_mono {lo hi : Nat} {m : List Host.Cell} (h : Memory.wfFrom hi m = true) (le : lo ≤ hi) :
    Memory.wfFrom lo m = true := by
  cases m with
  | nil => rfl
  | cons c rest =>
    obtain ⟨k, b⟩ := c
    simp only [Memory.wfFrom, Bool.and_eq_true, decide_eq_true_eq] at h ⊢
    exact ⟨⟨⟨by omega, h.1.1.2⟩, h.1.2⟩, h.2⟩

/-- A byte written at an address of the memory keeps the canonical form. -/
theorem Memory.write_wfFrom {low a : Nat} {m : List Host.Cell} (b : Byte) (h : Memory.wfFrom low m = true)
    (lo : low ≤ a) (hi : a < memorySize) : Memory.wfFrom low (Memory.write m a b) = true := by
  induction m generalizing low with
  | nil =>
    unfold Memory.write
    split
    · rfl
    · simp_all [Memory.wfFrom]
  | cons c rest ih =>
    obtain ⟨k, v⟩ := c
    simp only [Memory.wfFrom, Bool.and_eq_true, decide_eq_true_eq, bne_iff_ne] at h
    obtain ⟨⟨⟨hk, hks⟩, hv⟩, hr⟩ := h
    unfold Memory.write
    split
    · simp [Memory.wfFrom, hk, hks, hv, ih hr (by omega)]
    · split
      · split
        · exact Memory.wfFrom_mono hr (by omega)
        · subst k; simp_all [Memory.wfFrom]
      · split
        · simp [Memory.wfFrom, hk, hks, hv, hr]
        · simp_all [Memory.wfFrom]; omega

/-- A write keeps the canonical form. -/
theorem Memory.write_wf {a : Nat} {m : List Host.Cell} (b : Byte) (h : Memory.wf m = true) (hi : a < memorySize) :
    Memory.wf (Memory.write m a b) = true :=
  Memory.write_wfFrom b h (Nat.zero_le a) hi

/-- A run of bytes written within the memory keeps the canonical form. -/
theorem Memory.writeAll_wf {a : Nat} {m : List Host.Cell} (bs : List Byte) (h : Memory.wf m = true)
    (hi : a + bs.length ≤ memorySize) : Memory.wf (Memory.writeAll m a bs) = true := by
  induction bs generalizing m a with
  | nil => exact h
  | cons b rest ih =>
    simp only [List.length_cons] at hi
    exact ih (Memory.write_wf b h (by omega)) (by omega)

/-- Below the lowest listed address every address reads as erased. -/
theorem Memory.read_below {low a : Nat} {m : List Host.Cell} (h : Memory.wfFrom low m = true) (lt : a < low) :
    Memory.read m a = erasedByte := by
  induction m generalizing low with
  | nil => rfl
  | cons c rest ih =>
    obtain ⟨k, v⟩ := c
    simp only [Memory.wfFrom, Bool.and_eq_true, decide_eq_true_eq] at h
    unfold Memory.read
    rw [if_neg (by omega)]
    exact ih h.2 (by omega)

/-- A read after a write to the same address gives the byte written. -/
theorem Memory.read_write_same {low : Nat} {m : List Host.Cell} (a : Nat) (b : Byte)
    (h : Memory.wfFrom low m = true) : Memory.read (Memory.write m a b) a = b := by
  induction m generalizing low with
  | nil =>
    unfold Memory.write
    split <;> simp_all [Memory.read]
  | cons c rest ih =>
    obtain ⟨k, v⟩ := c
    simp only [Memory.wfFrom, Bool.and_eq_true, decide_eq_true_eq] at h
    unfold Memory.write
    split
    · rw [Memory.read, if_neg (by omega)]
      exact ih h.2
    · split
      · subst k
        split
        · next e => rw [Memory.read_below h.2 (by omega), e]
        · simp [Memory.read]
      · split
        · next e =>
          rw [Memory.read, if_neg (by omega), Memory.read_below h.2 (by omega), e]
        · simp [Memory.read]

/-- A write leaves every other address as it reads. -/
theorem Memory.read_write_other (m : List Host.Cell) {a x : Nat} (b : Byte) (ne : x ≠ a) :
    Memory.read (Memory.write m a b) x = Memory.read m x := by
  induction m with
  | nil =>
    unfold Memory.write
    split
    · rfl
    · simp [Memory.read, Ne.symm ne]
  | cons c rest ih =>
    obtain ⟨k, v⟩ := c
    unfold Memory.write
    split
    · simp only [Memory.read, ih]
    · split
      · subst k
        split <;> simp [Memory.read, Ne.symm ne]
      · split
        · rfl
        · rw [Memory.read, if_neg (Ne.symm ne)]

/-- A run of bytes leaves every address outside it as it reads. -/
theorem Memory.read_writeAll_outside (m : List Host.Cell) {a x : Nat} (bs : List Byte)
    (out : x < a ∨ a + bs.length ≤ x) : Memory.read (Memory.writeAll m a bs) x = Memory.read m x := by
  induction bs generalizing m a with
  | nil => rfl
  | cons b rest ih =>
    simp only [List.length_cons] at out
    rw [Memory.writeAll, ih _ (by omega), Memory.read_write_other _ _ (by omega)]

end Sys2Proof.Machine
end

