-- ==== Sys2Proof/Laws/Panel.lean ====
section
/-! SUPPORT. Panel commands: what a command taken at once answers (R186), what a refused one leaves, and what no command at
its owner changes: start, keys, memory, clock and the queue of commands. -/
namespace Sys2Proof.Machine

/-! ### What no operation of an event changes -/

/-- Start, keys, memory, clock, free-value counter and the queue of commands stand, and the event remembers the same
governor. -/
def Ev.Base (e e' : Ev) : Prop :=
  e'.s.start = e.s.start ∧ e'.s.manager = e.s.manager ∧ e'.s.engineer = e.s.engineer ∧ e'.s.memory = e.s.memory
  ∧ e'.s.memoryAnswers = e.s.memoryAnswers ∧ e'.s.now = e.s.now ∧ e'.s.freeCount = e.s.freeCount
  ∧ e'.s.pending = e.s.pending ∧ e'.before = e.before

theorem Ev.Base.refl (e : Ev) : e.Base e := ⟨rfl, rfl, rfl, rfl, rfl, rfl, rfl, rfl, rfl⟩

theorem Ev.Base.trans {a b c : Ev} (h : a.Base b) (k : b.Base c) : a.Base c := by
  obtain ⟨h1, h2, h3, h4, h5, h6, h7, h8, h9⟩ := h
  obtain ⟨k1, k2, k3, k4, k5, k6, k7, k8, k9⟩ := k
  exact ⟨k1.trans h1, k2.trans h2, k3.trans h3, k4.trans h4, k5.trans h5, k6.trans h6, k7.trans h7, k8.trans h8,
    k9.trans h9⟩

theorem Ev.SendPart.base {a b : Ev} (h : a.SendPart b) : a.Base b := by
  obtain ⟨_, _, rfl⟩ := h
  exact .refl a

theorem Ev.HousePart.base {a b : Ev} (h : a.HousePart b) : a.Base b := by
  obtain ⟨_, _, rfl⟩ := h
  exact .refl a

theorem Ev.CurtainPart.base {a b : Ev} (h : a.CurtainPart b) : a.Base b := by
  obtain ⟨_, _, _, _, _, rfl⟩ := h
  exact .refl a

theorem Ev.CallPart.base {a b : Ev} (h : a.CallPart b) : a.Base b := by
  obtain ⟨_, _, _, rfl⟩ := h
  exact .refl a

theorem Ev.ZonePart.base {a b : Ev} (h : a.ZonePart b) : a.Base b := by
  obtain ⟨_, _, _, _, _, _, rfl⟩ := h
  exact .refl a

theorem Ev.clearProven_part (e : Ev) : e.CurtainPart e.clearProven := e.gov_part _

theorem Ev.handPhase_base (e : Ev) (p : Phase) : e.Base (e.handPhase p) := by
  unfold Ev.handPhase
  dsimp only
  refine .trans ?_ (Ev.phaseCall_part _ _).base
  have shows : e.Base (if p.keepsShow = true then e else e.each e.s.ownedZones Ev.endShow) := by
    split
    · exact .refl e
    · exact (Ev.each_part (P := Ev.ZonePart) .refl .trans (fun e z => e.endShow_part z) _ _).base
  generalize (if p.keepsShow = true then e else e.each e.s.ownedZones Ev.endShow) = x at shows ⊢
  split
  · exact shows.trans x.clearProven_part.base
  · exact shows

theorem Ev.adoptPhase_base (e : Ev) (p : Phase) (q : Half) (o : Nat) : e.Base (e.adoptPhase p q o) := by
  unfold Ev.adoptPhase
  dsimp only
  split
  · exact .trans ⟨rfl, rfl, rfl, rfl, rfl, rfl, rfl, rfl, rfl⟩ (Ev.handPhase_base _ p)
  · exact ⟨rfl, rfl, rfl, rfl, rfl, rfl, rfl, rfl, rfl⟩

theorem Ev.takeTriplet_base (e : Ev) (p : Phase) (q : Half) (o : Nat) : e.Base (e.takeTriplet p q o) := by
  unfold Ev.takeTriplet
  split
  · exact e.adoptPhase_base p q o
  · exact .refl e

theorem Ev.takeSetPhase_base (e : Ev) (b : Byte) : e.Base (e.takeSetPhase b).1 := by
  unfold Ev.takeSetPhase
  split
  · exact .refl e
  · split
    · exact .refl e
    · split
      · exact .refl e
      · dsimp only
        split
        · exact .trans (e.send_part _).base (Ev.adoptPhase_base _ _ _ _)
        · exact .refl e

theorem Ev.takeHouse_base (e : Ev) (c : HouseCommand) : e.Base (e.takeHouse c).1 := by
  unfold Ev.takeHouse
  split
  · exact .refl e
  · dsimp only
    split
    · exact .trans (b := e.on fun s => { s with notices := { s.notices with commandSeq := e.s.notices.commandSeq + 1 } })
        (.refl e) (.trans (Ev.send_part _ _).base (Ev.applyHouse_part _ _ _ _).base)
    · exact .refl e

theorem Ev.forward_base (e : Ev) (n : Notice) (f : Ev → Ev) (h : ∀ x, Ev.Base x (f x)) : e.Base (e.forward n f).1 := by
  unfold Ev.forward
  split
  · exact .trans (e.send_part n).base (h _)
  · exact .refl e

theorem Ev.panelAlert_base (e : Ev) (a : AlertAction) (z : Byte) : e.Base (e.panelAlert a z).1 := by
  unfold Ev.panelAlert
  split
  · exact .refl e
  · split
    · exact (e.takeAlert_part a _).base
    · exact e.forward_base _ _ .refl

theorem Ev.panelRaise_base (e : Ev) (take : Ev → Ev × Answer) (h : e.CurtainPart (take e).1) (n : Byte) :
    e.Base (e.panelRaise take n).1 := by
  unfold Ev.panelRaise
  split
  · exact .refl e
  · split
    · exact (e.takeLocalRaise_part take h).base
    · exact .refl e

theorem Ev.panelCurtain_base (e : Ev) (a : CurtainAction) (n : Byte) : e.Base (e.panelCurtain a n).1 := by
  unfold Ev.panelCurtain
  split
  · exact .refl e
  · split
    · exact (e.takeLocal_part a).base
    · split
      · exact .refl e
      · split
        · exact .refl e
        · exact e.forward_base _ _ .refl

theorem Ev.panelLight_base (e : Ev) (a : LightAction) (g : Half) : e.Base (e.panelLight a g).1 := by
  unfold Ev.panelLight
  split
  · exact .refl e
  · exact e.forward_base _ _ fun x => ⟨rfl, rfl, rfl, rfl, rfl, rfl, rfl, rfl, rfl⟩

theorem Ev.panelRelease_base (e : Ev) : e.Base e.panelRelease.1 := by
  unfold Ev.panelRelease
  split
  · exact .refl e
  · split
    · exact .refl e
    · exact ⟨rfl, rfl, rfl, rfl, rfl, rfl, rfl, rfl, rfl⟩

theorem Ev.panelCallStart_base (e : Ev) (n : Byte) : e.Base (e.panelCallStart n).1 := by
  unfold Ev.panelCallStart
  split
  · exact .refl e
  · split
    · exact .refl e
    · exact e.forward_base _ _ fun x => (x.applyCall_part _ _).base

theorem Ev.panelCallCancel_base (e : Ev) (n : Byte) : e.Base (e.panelCallCancel n).1 := by
  unfold Ev.panelCallCancel
  split
  · exact .refl e
  · exact e.forward_base _ _ fun x => (x.calls_part _ (Calls.finish_like _ _ _ _ _)).base

theorem Ev.panelCallAck_base (e : Ev) (n a : Byte) : e.Base (e.panelCallAck n a).1 := by
  unfold Ev.panelCallAck
  split
  · exact .refl e
  · split
    · exact .refl e
    · exact e.forward_base _ _ fun x => (x.calls_part _ (Calls.finish_like _ _ _ _ _)).base

theorem Ev.takeLoopTest_base (e : Ev) (m : Byte) : e.Base (e.takeLoopTest m).1 := by
  unfold Ev.takeLoopTest
  split
  · exact .refl e
  · unfold Ev.takeLoopMode
    split <;> exact ⟨rfl, rfl, rfl, rfl, rfl, rfl, rfl, rfl, rfl⟩

theorem Ev.panelSnapshot_base (e : Ev) (t i : Byte) : e.Base (e.panelSnapshot t i).1 := by
  unfold Ev.panelSnapshot
  split
  · exact .refl e
  · dsimp only [Ev.on]
    unfold State.afterSnapshot
    split <;> exact ⟨rfl, rfl, rfl, rfl, rfl, rfl, rfl, rfl, rfl⟩

/-- What no panel command changes at its owner. -/
theorem Ev.act_base (e : Ev) (c : PanelCommand) : e.Base (e.act c).1 := by
  cases c
  · exact e.takeSetPhase_base _
  · exact e.panelAlert_base _ _
  · exact e.takeHouse_base _
  · exact (e.takeIsolate_part _ _ _).base
  · exact (e.takeDeisolate_part _).base
  · exact e.panelRaise_base _ e.takeRaise_part _
  · exact e.panelRaise_base _ e.takeResume_part _
  · exact e.panelCurtain_base _ _
  · exact e.panelLight_base _ _
  · exact e.panelRelease_base
  · exact e.panelCallStart_base _
  · exact e.panelCallCancel_base _
  · exact e.panelCallAck_base _ _
  · exact e.takeLoopTest_base _
  · exact e.panelSnapshot_base _ _
  · exact .refl e
  · exact .refl e

/-- What no delivered notice changes (R37, R103). -/
theorem Ev.deliver_base (e : Ev) (o : Nat) (n : Notice) : e.Base (e.deliver o n) := by
  cases n with
  | presence p =>
    show e.Base (e.takePresence o p)
    unfold Ev.takePresence
    have h : e.Base ((e.each p.digest fun e d => e.adoptItem o d none).takeTriplet p.phase p.phaseSeq p.phaseOrigin) :=
      .trans (Ev.each_part (P := Ev.HousePart) .refl .trans (fun e d => e.adoptItem_part o d none) _ _).base
        (Ev.takeTriplet_base _ _ _ _)
    split
    · exact h
    · exact h.trans (Ev.takeCurtain_part _ _ _ _).base
  | zoneState d c => exact (e.adoptItem_part _ _ _).base
  | alertAction z a => exact (e.deliverAlert_part z a).base
  | houseCmd c q => exact (e.applyHouse_part c o q).base
  | phase p q => exact e.takeTriplet_base p q o
  | curtain m st => exact (e.takeCurtain_part o m (some st)).base
  | curtainReq k a =>
    show e.Base (e.deliverRequest k a)
    unfold Ev.deliverRequest
    split
    · exact (e.takeRequest_part a).base
    · exact .refl e
  | lightCue g a => exact ⟨rfl, rfl, rfl, rfl, rfl, rfl, rfl, rfl, rfl⟩
  | call d => exact (e.applyCall_part o d).base
  | callCancel k => exact (e.calls_part _ (Calls.finish_like _ _ _ _ _)).base
  | callAck k a => exact (e.calls_part _ (Calls.finish_like _ _ _ _ _)).base

/-- What no frame offered by the loop interface changes (R36). -/
theorem Ev.offered_base (e : Ev) (f : Frame) (r : Ring) : e.Base (e.offered f r) := by
  unfold Ev.offered
  dsimp only
  split
  · exact .refl e
  · next p _ =>
    split
    · unfold Ev.acceptNotice
      dsimp only
      generalize Notice.parse f.kind f.body = n
      have h1 : e.Base (e.on fun s => s.setPeer p.number fun p => p.accept s.now f.seq r n) :=
        ⟨rfl, rfl, rfl, rfl, rfl, rfl, rfl, rfl, rfl⟩
      generalize (e.on fun s => s.setPeer p.number fun p => p.accept s.now f.seq r n) = x at h1 ⊢
      have h2 : e.Base (if p.state = .absent then x.signalPresent p.number r else x) := by
        split
        · exact h1.trans (.trans (x.report_house _).base (Ev.setPresent_part _ _ _).base)
        · exact h1
      generalize (if p.state = .absent then x.signalPresent p.number r else x) = y at h2 ⊢
      have h3 : e.Base (if p.restarts n = true then y.signalRestart p.number else y) := by
        split
        · exact h2.trans (.trans (y.report_house _).base (Ev.forgetEpochs_part _ _).base)
        · exact h2
      generalize (if p.restarts n = true then y.signalRestart p.number else y) = z at h3 ⊢
      split
      · exact h3
      · exact h3.trans (z.deliver_base _ _)
    · exact .refl e

/-! ### Commands taken at once -/

/-- The commands whose frames are profile commands (Table 10-2). -/
def PanelCommand.isProfile : PanelCommand → Bool
  | .profileRead _ _ => true
  | .profileWrite _ _ => true
  | _ => false

/-- A command taken at once, other than a profile command, acts at its owner and is answered in the same event (R186). -/
theorem State.panelCommand_ready {s : State} (h : s.Ready) (tag : Byte) {c : PanelCommand} (np : c.isProfile = false) :
    s.panelCommand tag c =
      ((((Ev.start s).act c).1.reply
        ⟨tag, c.kindCode, ((Ev.start s).act c).2.1, ((Ev.start s).act c).2.2⟩).finish) := by
  obtain ⟨h1, h2, h3, h4⟩ := h
  have k : isProfileKind c.kindCode = false := by
    cases c with
    | alert a _ => cases a <;> rfl
    | house a => cases a <;> rfl
    | curtain a _ => cases a <;> rfl
    | light a _ => cases a <;> rfl
    | profileRead _ _ => cases np
    | profileWrite _ _ => cases np
    | _ => rfl
  unfold State.panelCommand State.takeFrame
  rw [if_neg h1, h2, if_neg (by simp)]
  unfold State.runFrame
  rw [if_neg (by omega)]
  have ok : (c.frame tag).checked s.start.mode = .ok c := by
    have k' : isProfileKind (c.frame tag).kind = false := k
    show (if s.start.mode = some .profileFault ∧ (c.frame tag).kind ≠ 26 then Except.error Reason.serviceOnly
      else if isProfileKind (c.frame tag).kind ∧ s.start.mode ≠ some .service then .error .serviceOnly
      else .ok c) = .ok c
    rw [if_neg (fun x => h4 x.1), if_neg (fun x => by rw [k'] at x; exact absurd x.1 (by decide))]
  rw [ok]
  show s.runCommand c.kindCode tag c = _
  have tk : (Ev.start s).take tag c =
      .answered ((Ev.start s).act c).1 ((Ev.start s).act c).2.1 ((Ev.start s).act c).2.2 := by
    cases c with
    | profileRead _ _ => cases np
    | profileWrite _ _ => cases np
    | _ => rfl
  unfold State.runCommand
  rw [tk]

/-- The end of an event that only made a reply, in a quiet state, leaves the reply alone. -/
theorem Ev.reply_quiet {s : State} (h : s.Quiet) (r : Reply) :
    ((Ev.start s).reply r).finish = { s with panel := { s.panel with replies := s.panel.replies ++ [r] } } := by
  rw [Ev.finish_quiet h.1.1 h.2 rfl rfl rfl]
  rfl

/-- A command refused at its owner leaves the reply alone. -/
theorem State.panelCommand_refused {s : State} (h : s.Ready) (q : s.Quiet) (tag : Byte) {c : PanelCommand}
    (np : c.isProfile = false) {why : Reason} (r : (Ev.start s).act c = (Ev.start s, .refused why, .none)) :
    s.panelCommand tag c = s.replying tag c.kindCode (.refused why) .none := by
  rw [s.panelCommand_ready h tag np, r]
  exact Ev.reply_quiet q _

end Sys2Proof.Machine
end

