-- ==== Sys2Proof/WellFormed.lean ====
section
/-! DEFINITION. Which commands are well formed: an operand that names a zone, a station, a channel or
a count lies in the range the spec gives it. A command outside these ranges names nothing of the
station, and its meaning changes nothing or refuses it as the spec's own checks say. -/
namespace Sys2Proof

/-- A physical zone, 1 to 48 (Table 0-2). -/
def zoneInRange (z : Nat) : Bool := 1 ≤ z && z ≤ 48

/-- A peer's station number, 1 to 63 (Table 0-2). -/
def stationInRange (n : Nat) : Bool := 1 ≤ n && n ≤ 63

/-- A light channel, 1 to 12 (R146). -/
def lightInRange (c : Nat) : Bool := 1 ≤ c && c ≤ 12

/-- A dispatch channel, 1 to 8 (R164). -/
def sounderInRange (c : Nat) : Bool := 1 ≤ c && c ≤ 8

/-- The well-formed commands. -/
def Instr.wellFormed : Instr → Bool
  | .powerOnReset _ _ => true
  | .resetPin _ _ => true
  | .startModeSettled _ _ _ _ => true
  | .loopFrameReceived _ => true
  | .loopFrameAborted _ _ => true
  | .gapFillReceived _ => true
  | .silenceTimerExpiry _ => true
  | .loneStartExpiry => true
  | .repeatStart _ => true
  | .repeatEnd _ => true
  | .insertionStart _ => true
  | .insertionAbort _ => true
  | .insertionComplete _ => true
  | .loopTestEcho _ => true
  | .loopTestSelf _ => true
  | .loopTestOff _ => true
  | .returnLimitExpiry _ => true
  | .absenceTimerExpiry n => stationInRange n
  | .presenceRound => true
  | .lineSample _ => true
  | .ackWindowExpiry z => zoneInRange z
  | .investigationExpiry z => zoneInRange z
  | .ackAlert _ _ => true
  | .confirmAlert _ _ => true
  | .cancelAlert _ _ => true
  | .managerKeyChange _ => true
  | .engineerKeyChange _ => true
  | .isolate _ _ _ _ => true
  | .deisolate _ _ => true
  | .isolationWarning z => zoneInRange z
  | .isolationExpiry z => zoneInRange z
  | .setPhase _ _ => true
  | .evacuate _ => true
  | .silence _ => true
  | .houseReset _ => true
  | .curtainRaise _ _ => true
  | .curtainResume _ _ => true
  | .curtainLower _ _ => true
  | .curtainStop _ _ => true
  | .curtainDrop _ _ => true
  | .curtainProof _ _ => true
  | .curtainClearStatus _ _ => true
  | .limitEvent _ _ _ => true
  | .raiseKeyChange _ => true
  | .raiseTimeout => true
  | .travelSample _ => true
  | .fadeTick => true
  | .periodWrap c => lightInRange c
  | .periodCompareMatch c => lightInRange c
  | .lightCue _ _ _ _ => true
  | .lightHold _ _ => true
  | .lightResume _ _ => true
  | .lightRetime _ _ _ => true
  | .lightsRelease _ => true
  | .callStart _ _ => true
  | .callCancel _ _ => true
  | .callAck _ _ _ => true
  | .chimeEnd c => sounderInRange c
  | .intervalEnd c => sounderInRange c
  | .panelFrameReceived _ => true
  | .panelGapTimeout => true
  | .panelTransmitStart => true
  | .panelTransmitEnd => true
  | .snapshotStation _ _ => true
  | .snapshotPeer _ _ => true
  | .snapshotLine _ _ => true
  | .snapshotZone _ _ => true
  | .snapshotView _ _ => true
  | .snapshotFirst _ _ => true
  | .snapshotCurtain _ _ => true
  | .snapshotLight _ _ => true
  | .snapshotLibrary _ _ => true
  | .snapshotQueue _ _ => true
  | .snapshotChannel _ _ => true
  | .profileRead _ _ _ => true
  -- the body of a panel frame holds at most 60 bytes (R184), two of them the address
  | .profileWrite _ _ bytes => bytes.length ≤ 58
  | .profileAccessEnd => true
  | .loopSymbolReceived _ _ => true
  | .panelByteReceived _ _ => true

end Sys2Proof
end

