-- ==== Sys2Proof/Tests/Slice0.lean ====
section
/-! SUPPORT. The model's own tests: words and worked examples of the spec, with the expected values the spec prints; the
refusals of the well-formedness checks; and for every statement with hypotheses a state and operands that meet them. -/
namespace Sys2Proof.Tests
open Sys2Proof.Machine
-- one proof at a time: every proof in waiting would hold a thread and its stack
set_option Elab.async false

/-! ### A small station -/

/-- The calls of section 9.12, and call 60 of section 9.13. -/
def bells : List CallDef :=
  [⟨20, 2, 3, 3, 30, 2, 0, false, false⟩, ⟨31, 0, 1, 255, 10, 4, 1, true, false⟩, ⟨44, 8, 2, 2, 20, 1, 0, false, true⟩,
    ⟨50, 5, 1, 1, 30, 6, 2, false, false⟩, ⟨60, 1, 2, 2, 5, 7, 0, false, false⟩]

/-- Curtain 1 of section 7.9. -/
def curtain1 : TravelParams := ⟨250, 12000, 1500, 600, 150, 300, 30000, false⟩

/-- What the house knows at the end of an event: the level, and the own curtain entry. -/
def calm (s : State) : State :=
  State.settleEntry { s with house := { s.house with level := s.house.computedLevel } }

/-- The channels of section 9.12. -/
def bellChannels : List DispatchChannel :=
  [⟨1, true, 1, true, .idle, none, 0⟩, ⟨2, true, 2, true, .idle, none, 0⟩, ⟨3, true, 1, false, .idle, none, 0⟩]
    ++ (Calls.reset.channels.drop 3)

/-- Station 31 of section 3.9.1, which owns zone 7 with its SMOKE lines 4 and 5 and its MANUAL line 6, curtain 1 and the
channels of section 9.12; station 9 owns zone 8 and is present. -/
def home : State :=
  calm { State.reset with
    start := ⟨some .normal, .powerOn, none, 31, { Profile.reset with
      zoneMap := (List.range 48).map fun i => if i = 6 then 31 else if i = 7 then 9 else 0
      library := bells, curtain := 1, params := curtain1, investigable := [7], period := 2000 }⟩
    manager := some .on
    engineer := some .on
    loop := ⟨.active, PortRec.reset, PortRec.reset, ⟨.gap 20, []⟩, ⟨.gap 20, []⟩, none⟩
    notices := { Notices.reset with
      roundDue := some 2000000
      roster := (List.range 63).map fun i =>
        if i + 1 = 31 then { Peer.reset 31 with state := .self }
        else if i + 1 = 9 then ⟨9, .present, some 40, some 6000000, some .ba, false, none, none⟩
        else Peer.reset (i + 1) }
    lines := ⟨(List.range 32).map fun i =>
      if i = 3 ∨ i = 4 then ⟨i + 1, .smoke, 7, some 50, 3, .normal, false⟩
      else if i = 5 then ⟨6, .manual, 7, some 20, 3, .normal, false⟩
      else LineRec.reset (i + 1), some 250000⟩
    zones := [⟨7, true, .quiet, false, 14, none, none, false, none, none, none⟩]
    house := { House.reset with
      phase := .performance
      view := (List.range 49).map fun z =>
        if z = 7 then ⟨7, 31, .quiet, false, some 14, false⟩
        else if z = 8 then ⟨8, 9, .quiet, false, some 3, false⟩ else ViewEntry.reset z }
    gov := { Governor.reset true false with curtain := 1 }
    travel := { Travel.reset 12000 with known := true, accumulator := 0, sampleDue := some 50000 }
    lights := ⟨[⟨1, true, 2, .linear, true, 0, 800, none, .none, none, 2000, 1600, 1600⟩,
      ⟨2, true, 2, .square, false, 100, 800, none, .none, none, 2000, 1280, 1280⟩]
      ++ (Lights.reset.channels.drop 2), some 20000⟩
    calls := { Calls.reset with library := bells, channels := bellChannels }
    panel := { Panel.reset with assembler := .hunt } }

/-- Zone 7's record changed, and the view and the level with it. -/
def inZone (f : ZoneRec → ZoneRec) (s : State) : State :=
  let t := { s with zones := s.zones.map f }
  calm ((t.zones.map id).foldl (fun u w => u.withZone w) t)

/-- The curtain changed, and its entry with it. -/
def inCurtain (f : Governor → Governor) (s : State) : State := calm { s with gov := f s.gov }

/-- The outcome's state. -/
def after (i : Instr) (s : State) : State :=
  match exec i s with
  | .next t => t
  | _ => s

/-- Readings that are all alike but for one line. -/
def readings (rest : Byte) (line : Nat) (r : Byte) : Vector Byte 32 := (Vector.replicate 32 rest).set! (line - 1) r

/-! ### Words -/

/-- No row of the table has bits. -/
theorem test_table_has_no_words : decodeTableWord 8 0 = none ∧ decodeTableWord 0 1 = none := ⟨rfl, rfl⟩

/-- Notices written out from Tables 1-2, 2-2 and 2-3. -/
theorem test_notice_words :
    Notice.parse 2 [7, 0x83, 16, 0] = some (.zoneState ⟨7, .alert, true, 16⟩ .smoke)
    ∧ Notice.parse 3 [48, 2] = some (.alertAction 48 .cancel)
    ∧ Notice.parse 4 [2, 0xFF] = some (.houseCmd .houseReset 0xFF)
    ∧ Notice.parse 5 [4, 0x01, 0x02] = some (.phase .interval 0x0102)
    ∧ Notice.parse 6 [1, 6, 0x2E, 0xE0, 1, 4, 3] = some (.curtain ⟨1, .dropping, 12000, true, some .late⟩ 3)
    ∧ Notice.parse 7 [4, 3] = some (.curtainReq 4 .proof)
    ∧ Notice.parse 8 [0x00, 0x24, 0, 0x00, 0x32, 0x00, 0x50] = some (.lightCue 0x0024 (.cue 50 80))
    ∧ Notice.parse 9 [20, 2, 3, 3, 0, 30, 2, 0, 1] = some (.call ⟨20, 2, 3, 3, 30, 2, 0, true, false⟩)
    ∧ Notice.parse 10 [250] = some (.callCancel 250)
    ∧ Notice.parse 11 [31, 8] = some (.callAck 31 8)
    ∧ Notice.parse 2 [7, 6, 16, 0] = none ∧ Notice.parse 12 [] = none := by decide +kernel

/-- Panel commands written out from Table 10-2. -/
theorem test_panel_words :
    readFrame 8 [7, 0, 0, 20] = .command (.isolate 7 0 (some 20))
    ∧ readFrame 8 [7, 1] = .command (.isolate 7 1 none) ∧ readFrame 8 [7] = .badLength
    ∧ readFrame 17 [0, 0x24, 0, 50, 0, 80] = .command (.light (.cue 50 80) 0x0024)
    ∧ readFrame 16 [4] = .command (.curtain .clearStatus 4)
    ∧ readFrame 27 [0x0F, 0xFF, 1] = .command (.profileRead 0x0FFF 1) ∧ readFrame 29 [] = .unknownKind := by
  decide +kernel

/-! ### Well-formedness refuses -/

/-- A zone outside 1 to 48. -/
theorem test_zone_range :
    Instr.wellFormed (.ackWindowExpiry 0) = false ∧ Instr.wellFormed (.investigationExpiry 49) = false
    ∧ Instr.wellFormed (.isolationWarning 0) = false ∧ Instr.wellFormed (.isolationExpiry 49) = false
    ∧ Instr.wellFormed (.ackWindowExpiry 48) = true := by decide

/-- A station outside 1 to 63. -/
theorem test_station_range :
    Instr.wellFormed (.absenceTimerExpiry 0) = false ∧ Instr.wellFormed (.absenceTimerExpiry 64) = false
    ∧ Instr.wellFormed (.absenceTimerExpiry 63) = true := by decide

/-- A light channel outside 1 to 12, and a dispatch channel outside 1 to 8. -/
theorem test_channel_ranges :
    Instr.wellFormed (.periodWrap 0) = false ∧ Instr.wellFormed (.periodCompareMatch 13) = false
    ∧ Instr.wellFormed (.chimeEnd 9) = false ∧ Instr.wellFormed (.intervalEnd 0) = false
    ∧ Instr.wellFormed (.chimeEnd 8) = true := by decide

/-- More bytes than the longest panel frame holds. -/
theorem test_write_length :
    Instr.wellFormed (.profileWrite 1 0 (List.replicate 59 0)) = false
    ∧ Instr.wellFormed (.profileWrite 1 0 (List.replicate 58 0)) = true := by decide

/-! ### Worked examples -/

/-- Table 3-2: a line after each of its samples. -/
theorem test_line_classes :
    ([100, 112, 118, 166, 171, 240, 90, 4].foldl
      (fun (a : LineRec × List (Nat × LineState × Bool)) r =>
        let l := a.1.sample false r
        (l, a.2 ++ [(l.run, l.state, l.latched)])) (⟨4, .smoke, 7, some 50, 3, .normal, false⟩, [])).2
      = [(1, .normal, false), (2, .normal, false), (3, .preAlarm, false), (1, .preAlarm, false), (2, .preAlarm, false),
        (3, .alarm, true), (1, .alarm, true), (1, .alarm, true)] := by decide +kernel

/-- Line 4 has read alarm twice, in PRE_ALARM (Table 3-5 before 0.75 s). -/
def warming : State :=
  inZone (fun z => { z with state := .preAlarm, epoch := 15, lastCause := some .smoke })
    { home with lines := { home.lines with records := home.lines.records.map fun l =>
      if l.number = 4 then ⟨4, .smoke, 7, some 171, 2, .preAlarm, false⟩ else l } }

/-- Table 3-5 at 0.75 s: an investigable zone in PERFORMANCE enters ALERT with the 30 s window. -/
theorem test_sample_raises_alert :
    ((after (.lineSample (readings 20 4 240)) warming).zones.map fun z =>
      (z.state, z.epoch, z.firstCause, z.ackDue, z.acknowledged))
      = [(.alert, 16, some .smoke, some (250000 + 30000000), false)] := by decide +kernel

/-- Zone 7 in ALERT (Table 3-5 after 0.75 s). -/
def alerted : State :=
  inZone (fun z => { z with state := .alert, epoch := 16, firstCause := some .smoke, lastCause := some .smoke, ackDue := some 30000000 })
    { home with lines := { home.lines with records := home.lines.records.map fun l =>
      if l.number = 4 then ⟨4, .smoke, 7, some 130, 3, .alarm, true⟩ else l } }

/-- Table 3-5 at 12.00 s: the acknowledged zone keeps state and epoch and is investigated for 180 s. -/
theorem test_ack_starts_investigation :
    ((after (.ackAlert 1 7) alerted).zones.map fun z => (z.state, z.epoch, z.ackDue, z.investigationDue, z.acknowledged))
      = [(.alert, 16, none, some 180000000, true)] := by decide +kernel

/-- Table 3-5 at 70.00 s: a cancelled alert whose line reads 130 leaves PRE_ALARM. -/
theorem test_cancel_releases :
    ((after (.cancelAlert 1 7) alerted).zones.map fun z => (z.state, z.epoch, z.lastCause, z.firstCause))
      = [(.preAlarm, 17, some .cancel, none)] := by decide +kernel

/-- An ACK taken after the window's expiry is too late (section 3.9.1). -/
theorem test_ack_too_late :
    (after (.ackAlert 1 7) (after (.ackWindowExpiry 7) alerted)).panel.replies
      = [⟨1, 2, .refused .tooLate, .none⟩] := by decide +kernel

/-- Table 4-3 at 0:00. -/
theorem test_isolate_made :
    ((after (.isolate 1 7 0 (some 20)) home).zones.map fun z =>
      (z.state, z.isolated, z.epoch, z.lastCause, z.isolation))
      = [(.quiet, true, 15, some .fault, some ⟨.show, some 1200000000, false⟩)] := by decide +kernel

/-- Table 7-3: the three samples of the drop, with position in millimetres, velocity, over run, stage and estimate. -/
theorem test_drop_samples :
    ([65476, 65336, 65196].foldl
      (fun (a : Travel × List (Nat × Int × Nat × Nat × Nat)) c =>
        let t := (a.1.periodicSample curtain1 { Governor.reset false false with curtain := 1, state := .dropping } c).1
        (t, a.2 ++ [(t.position, t.velocity, t.overRun, t.stage, t.closure)]))
      ({ Travel.reset 12000 with
        previous := some 40, accumulator := 7400000, known := true, stage := 1, elapsed := 3950 }, [])).2
      = [(7375, -500, 0, 1, 18750), (7340, -700, 1, 1, 14536), (7305, -700, 0, 2, 14536)] := by decide +kernel

/-- Table 7-6: the top of a raise, with period displacement, accumulator and velocity. -/
theorem test_top_of_raise :
    let g : Governor := { Governor.reset false false with curtain := 1, state := .raising }
    let t := ({ Travel.reset 12000 with previous := some 100, accumulator := 11940000, known := true } : Travel)
    let a := (t.periodicSample curtain1 g 148).1
    let b := a.limitSample curtain1 .upArrival 167
    let c := (b.periodicSample curtain1 { g with upClosed := true, state := .up } 167).1
    (a.displacement, a.accumulator, a.velocity) = (0, 11952000, 240)
    ∧ (b.displacement, b.accumulator, b.velocity) = (19, 12000000, 240)
    ∧ (c.displacement, c.accumulator, c.velocity) = (0, 12000000, 95) := by decide +kernel

/-- Table 8-5 at 5.00 s: a tick of two fades, with the compare registers (section 8.8). -/
theorem test_fade_levels :
    ((after .fadeTick { home with lights := { home.lights with
      channels := [⟨1, true, 2, .linear, true, 0, 706, some ⟨425, 1000, 100, 49, false⟩, .active, none, 2000, 0, 0⟩,
        ⟨2, true, 2, .square, false, 100, 365, some ⟨800, 100, 400, 249, false⟩, .none, none, 2000, 0, 0⟩] } }).lights.channels.map
      fun c => (c.level, c.compareReg)) = [(712, 1424), (363, 263)] := by decide +kernel

/-- Table 8-2: the wrap, at the end of the count 1,999, loads the register of channel 5, and the output is on again. -/
theorem test_wrap_loads_buffer :
    let t := after (.periodWrap 5) { home with lights := { home.lights with
      channels := [⟨5, true, 0, .linear, false, 0, 512, none, .none, none, 1, 1024, 1000⟩] } }
    t.lights.channels.map (fun c => (c.compareBuf, c.counter 2000 t.now, c.output 2000 t.now)) = [(1024, 0, true)] := by
  decide +kernel

/-- Three ticks and a half of period later the counter has wrapped and the buffer holds the register (R153, R155). -/
theorem test_time_passes_wraps :
    let c := LightChannel.elapse 2000 7001 ⟨5, true, 0, .linear, false, 0, 512, none, .none, none, 1, 1024, 1000⟩
    (c.wrapDue, c.compareBuf, c.counter 2000 7001) = (8001, 1024, 1000) := by decide

/-- Table 9-5 at 0.0 s: call 20 sounds in both areas. -/
theorem test_call_starts :
    ((after (.callStart 1 20) home).calls.channels.take 3).map (fun d => (d.state, d.bound, d.count))
      = [(.sounding 2 2000000, some 20, 3), (.sounding 2 2000000, some 20, 3), (.idle, none, 0)] := by decide +kernel

/-- Table 9-5 at 20.0 s: call 50 takes channel 1, which holds call 20 in its interval, and call 20's item waits with 2. -/
theorem test_call_preempts :
    let c : Calls := { home.calls with
      nextStamp := 3
      queue := [⟨31, 2, 0, 10, 4, 1, true, false, 2, [⟨1, 255, some 3⟩]⟩,
        ⟨20, 31, 2, 30, 2, 0, false, false, 0, [⟨1, 3, some 1⟩, ⟨2, 3, some 2⟩]⟩,
        ⟨44, 3, 8, 20, 1, 0, false, true, 1, [⟨2, 2, none⟩]⟩]
      channels := [⟨1, true, 1, true, .interval 32000000, some 20, 2⟩, ⟨2, true, 2, true, .interval 32000000, some 20, 2⟩,
        ⟨3, true, 1, false, .interval 23200000, some 31, 255⟩] }
    let r := c.apply 0 20000000 2 ⟨50, 5, 1, 1, 30, 6, 2, false, false⟩
    r.1.channels.map (fun d => (d.state, d.bound, d.count))
      = [(.sounding 5 22500000, some 50, 1), (.interval 32000000, some 20, 2), (.interval 23200000, some 31, 255)]
    ∧ r.1.queue.map (fun q => (q.number, q.items.map CallItem.remaining))
      = [(50, [1]), (31, [255]), (20, [2, 3]), (44, [2])] := by decide +kernel

/-- Table 6-6 at 21.4 s: a proof that began at 12,000 mm passes at the down arrival. -/
theorem test_proof_passes :
    let s := inCurtain (fun g => { g with
      state := .dropping, proofMark := .running, descentStart := some 12000, downClosed := false }) home
    let g := (after (.limitEvent .down true 0) s).gov
    (g.state, g.lastResult, g.proofMark, g.proven) = (.down, .completed, .passed, true) := by decide +kernel

/-- Table 6-6 at 95.0 s: a RESUME at level 3 is refused by the level. -/
theorem test_resume_refused_by_level :
    (after (.curtainResume 1 1) (inCurtain (fun g => { g with state := .raiseHeld, raiseKey := true }) alerted)).panel.replies
      = [⟨1, 11, .refused .houseLevel, .none⟩] := by decide +kernel

/-- Table 2-5: with sixteen entries queued, a cue displaces the PRESENCE, a cancel finds nothing lower, and an EVACUATE goes
to the front. -/
theorem test_full_queue :
    let cue (n : Nat) : TxEntry := ⟨.lightCue 1 .hold, n, none, false, false⟩
    let call (n : Nat) : TxEntry := ⟨.call ⟨n, 0, 1, 1, 1, 1, 0, false, false⟩, n, none, false, false⟩
    let ns : Notices := { Notices.reset with
      nextAge := 20
      queue := [⟨.zoneState ⟨5, .confirmed, false, 9⟩ .smoke, 3, none, false, false⟩]
        ++ (List.range 13).map (fun i => cue (i + 4)) ++ [call 16, call 17] }
    (ns.offer home.loop (.lightCue 2 .hold)).map (fun a => (a.queue.getLast?.map TxEntry.age, a.queue.length))
      = some (some 16, 16)
    ∧ (ns.offer home.loop (.callCancel 3)) = none
    ∧ (ns.offer home.loop (.houseCmd .evacuate 0)).map (fun a => a.queue.head?.map TxEntry.age) = some (some 20) := by
  decide +kernel

/-- Table 1-5 from 410 to 660 µs: the insertion of 51 bytes that began at 0 is still INSERT, with the abort mark as its next
symbol; at 420 it is in GAP, both frames kept; F1 of 20 bytes follows at 440, and its closing mark is sent at 660. -/
theorem test_abort_then_repeat :
    let f (o : Byte) (n : Nat) : Frame := ⟨o, 0, 58, 10, List.replicate n 1⟩
    let s : State := { home with now := 410, loop := { home.loop with
      dirAB := ⟨.sendInsert (f 14 44) 530, [f 7 13, f 30 2]⟩ } }
    let t := after (.insertionAbort .ab) s
    let u := after (.repeatStart .ab) t
    (s.loop.dirAB.tx.sends 409 = some (.data 1) ∧ t.loop.dirAB.buffer = [f 7 13, f 30 2]
      ∧ t.loop.dirAB.tx.state 410 = .inserting ∧ t.loop.dirAB.tx.sends 410 = some .abort
      ∧ t.loop.dirAB.tx.state 420 = .gap ∧ t.loop.dirAB.tx.sends 420 = some .gapFill)
    ∧ u.now = 440 ∧ u.loop.dirAB = ⟨.sendRepeat ⟨7, 0, 57, 10, List.replicate 13 1⟩ 660, [f 30 2]⟩ := by decide +kernel

/-- In SELF_TEST a receiver hears its own transmitter: the opening mark, not gap fill, of an insertion, then its bytes, and its
closing mark after the completion (R22). -/
theorem test_self_test_hears_itself :
    let f : Frame := ⟨31, 0, 63, 10, [20]⟩
    let s : State := { home with loop := { home.loop with join := .selfTest, dirAB := ⟨.sendInsert f 100, []⟩ } }
    let t := after (.insertionComplete .ab) s
    s.heardNext .a = some .opening ∧ after (.gapFillReceived .a) s = s
    ∧ (after (.loopSymbolReceived .a .opening) s).heardNext .a = some (.data 31)
    ∧ t.heardNext .a = some .closing ∧ t.loop.portA.frame = some f.bytes := by decide +kernel

/-- A silence timer due 10 microseconds after the entry of SELF_TEST still takes its port DOWN, and the first own gap fill raises it
again; one that is due later does not expire (R15, R22). -/
theorem test_silence_at_entry_of_self_test :
    let s := after (.loopTestSelf 1) (home.onPort .a fun r => { r with silenceDue := 10 })
    let t := after (.silenceTimerExpiry .a) s
    (t.now, t.loop.portA.state, t.house.level) = (10, .down, 1)
    ∧ (after (.gapFillReceived .a) t).loop.portA.state = .up ∧ after (.silenceTimerExpiry .b) s = s := by decide +kernel

/-- The first position of the engineer key after a reset is no change: an isolation made before it stands (R76). -/
theorem test_first_key_position_is_no_change :
    let s := after (.isolate 1 7 0 (some 20)) { home with engineer := none }
    let t := after (.engineerKeyChange .suspend) s
    t.engineer = some .suspend ∧ t.zones = s.zones ∧ t.panel.reports = s.panel.reports := by decide +kernel

/-- A reply goes ahead of a report (R187). -/
theorem test_reply_before_report :
    (after .panelTransmitStart { home with panel := { home.panel with
      replies := [⟨5, 2, .forwarded, .none⟩], reports := [.level 0 1] } }).panel.tx
      = some (.reply ⟨5, 2, .forwarded, .none⟩) := by decide +kernel

/-! ### Words that witnesses use -/

/-- The level and the own curtain entry are told, as a Bool. -/
def quietCheck (s : State) : Bool :=
  decide (s.house.level = s.house.computedLevel ∧ s.house.level ≤ 5)
  && (!s.hasCurtain || match s.curtain? s.gov.curtain with
    | none => true
    | some c => decide (c = c.take s.start.station s.ownSummary true))

/-- The check says that the state is quiet. -/
theorem quiet_of {s : State} (h : quietCheck s = true) : s.Quiet := by
  simp only [quietCheck, Bool.and_eq_true, decide_eq_true_eq, Bool.or_eq_true, Bool.not_eq_true'] at h
  refine ⟨h.1, fun hc c hs => ?_⟩
  rw [hs] at h
  rcases h.2 with h2 | h2
  · rw [hc] at h2; cases h2
  · simpa using h2

/-- The stores of a state are within their bounds, where both transmitters are in GAP. -/
theorem store_of {s : State} (h : s.notices.queue.length ≤ 16 ∧ s.notices.awaiting.length ≤ 16
    ∧ (∀ e ∈ s.notices.queue, e.notice.body.length ≤ 48) ∧ (s.loop.dirAB.tx = .gap 20 ∧ s.loop.dirBA.tx = .gap 20)
    ∧ (s.zones.length ≤ 8 ∧ s.house.view.map ViewEntry.zone = List.range 49
      ∧ s.house.curtains.map CurtainEntry.curtain = [1, 2, 3, 4] ∧ s.house.firstAlarm.Nodup
      ∧ (∀ z ∈ s.house.firstAlarm, z ≤ 48) ∧ s.house.firstAlarm.length ≤ 49 ∧ s.calls.library.length ≤ 32)
    ∧ s.loop.dirAB.buffer.length ≤ 2 ∧ s.loop.dirBA.buffer.length ≤ 2
    ∧ (∀ bytes ∈ s.loop.portA.frame.toList, bytes.length ≤ 55) ∧ (∀ bytes ∈ s.loop.portB.frame.toList, bytes.length ≤ 55)
    ∧ s.panel.reports.length ≤ 32 ∧ s.calls.queue.length ≤ 24
    ∧ (∀ r ∈ s.calls.queue, 1 ≤ r.number ∧ r.number ≤ 250) ∧ (∀ d ∈ s.calls.library, 1 ≤ d.number ∧ d.number ≤ 250)) :
    s.StoreLaw := by
  obtain ⟨h1, h2, h3, ⟨h4, h5⟩, ⟨h6, h7, h8, h9, h10, h11, h12⟩, h13, h14, h15, h16, h17, h18, h19, h20⟩ := h
  exact ⟨h1, h2, h3, by rw [h4]; trivial, by rw [h5]; trivial, h6, h7, h8, h9, h10, h11, h12, h13, h14,
    fun x hx => h15 x (by simp [hx]), fun x hx => h16 x (by simp [hx]), h17, h18, h19, h20⟩

/-- What is bound to what, as a decidable proposition. -/
theorem bound_of {c : Calls} (h : c.channels.map DispatchChannel.number = (List.range 8).map (· + 1)
    ∧ (c.queue.map CallRec.number).Nodup ∧ (∀ r ∈ c.queue, 1 ≤ r.number) ∧ (∀ r ∈ c.evacuation.toList, r.number = 0)
    ∧ (∀ r ∈ c.records, (r.items.map CallItem.area).Nodup)
    ∧ (∀ d ∈ c.channels, (d.bound = none ↔ d.state = .idle) ∧ ∀ n ∈ d.bound.toList, d.inUse = true
        ∧ ∃ r ∈ c.records, r.number = n ∧ ∃ i ∈ r.items, i.area = d.area ∧ i.channel = some d.number)
    ∧ (∀ r ∈ c.records, ∀ i ∈ r.items, ∀ k ∈ i.channel.toList,
        ∃ d ∈ c.channels, d.number = k ∧ d.area = i.area ∧ d.bound = some r.number)) : c.Bound := by
  obtain ⟨h1, h2, h3, h4, h5, h6, h7⟩ := h
  exact ⟨h1, h2, h3, fun r hr => h4 r (by simp [hr]), h5,
    fun d hd => ⟨(h6 d hd).1, fun n hn => (h6 d hd).2 n (by simp [hn])⟩,
    fun r hr i hi k hk => h7 r hr i hi k (by simp [hk])⟩

/-- What the level allows the dispatcher, as a decidable proposition. -/
theorem obeys_of {c : Calls} {level : Nat}
    (h : (∀ d ∈ c.channels, ∀ n ∈ d.bound.toList, n ≠ 0 → ∃ r ∈ c.queue, r.number = n ∧ level < r.priority)
      ∧ (c.evacuation.isSome = true ↔ level = 5)) : c.obeys level :=
  ⟨fun d hd n hn => h.1 d hd n (by simp [hn]), h.2⟩

/-- The station of the tests with a tick waiting. -/
def waiting : State := { home with pending := [.fadeTick] }

/-- Bytes from address 0 on. -/
def memoryOf (bytes : List Byte) : List Host.Cell := (List.range bytes.length).zip bytes

/-- The sections of an image of stations 31 and 9, laid out by Tables 11-1 and 11-2: the zone map and the library; the curtain
number, the parameters and the lines of station 31; its lights and sounders. In pieces, over which the CRC runs. -/
def imagePieces (curtain : Byte) : List (List Byte) :=
  [[0, 0, 65] ++ List.replicate 6 0 ++ [31, 9] ++ List.replicate 21 0,
    List.replicate 19 0 ++ [1, 20, 2, 3, 3, 0, 30, 2, 0, 0],
    List.replicate 6 0 ++ [20, 31, 0, 186, curtain] ++ List.replicate 15 0,
    [3, 1, 3, 1, 3, 1, 0, 7, 0, 7, 2, 7] ++ (List.replicate 10 [3, 1]).flatten,
    (List.replicate 16 [3, 1]).flatten ++ [1, 7],
    List.replicate 38 0,
    List.replicate 38 0 ++ [0x07, 0xD0],
    List.replicate 26 0]

/-- An image of station 31 with curtain 0 or 1, with its CRC. -/
def image (curtain : Byte) : List Byte :=
  [1, 2, 0x01, 0x07] ++ (if curtain = 0 then [0x64, 0x87] else [0x08, 0x0D]) ++ (imagePieces curtain).flatten

/-- The CRC of the two images, piece by piece. -/
theorem image_crc : crc16 (imagePieces 0).flatten = 0x6487 ∧ crc16 (imagePieces 1).flatten = 0x080D := by
  have h (p : List Byte) (rest : List (List Byte)) (a b : Half) (hp : p.foldl crcByte a = b) :
      (p :: rest).flatten.foldl crcByte a = rest.flatten.foldl crcByte b := by
    rw [List.flatten_cons, List.foldl_append, hp]
  have h0 : crc16 (imagePieces 0).flatten = ((imagePieces 0).drop 4).flatten.foldl crcByte 0x03EF := by
    unfold crc16 imagePieces
    rw [h _ _ _ 0xAFF7 (by decide +kernel), h _ _ _ 0x003A (by decide +kernel), h _ _ _ 0xF9FA (by decide +kernel),
      h _ _ _ 0x03EF (by decide +kernel)]; rfl
  have h1 : crc16 (imagePieces 1).flatten = ((imagePieces 1).drop 4).flatten.foldl crcByte 0xE90E := by
    unfold crc16 imagePieces
    rw [h _ _ _ 0xAFF7 (by decide +kernel), h _ _ _ 0x003A (by decide +kernel), h _ _ _ 0x51DE (by decide +kernel),
      h _ _ _ 0xE90E (by decide +kernel)]; rfl
  rw [h0, h1]
  unfold imagePieces
  simp only [List.drop_succ_cons, List.drop_zero]
  rw [h _ _ _ 0x448A (by decide +kernel), h _ _ _ 0xF3E0 (by decide +kernel), h _ _ _ 0xC6C2 (by decide +kernel),
    h _ _ _ 0x6487 (by decide +kernel), h _ _ _ 0x1CBF (by decide +kernel), h _ _ _ 0x54DF (by decide +kernel),
    h _ _ _ 0x2F91 (by decide +kernel), h _ _ _ 0x080D (by decide +kernel)]
  exact ⟨rfl, rfl⟩

/-- The two sections of the image. -/
def imageHouse : Section := ⟨0, ((imagePieces 0).flatten.drop 3).take 65⟩
def imageOwn (curtain : Byte) : Section := ⟨31, (imagePieces curtain).flatten.drop 71⟩

/-- The two images stand for station 31, one with a curtain and one without, each with its warning call in the library, and hold no
section of station 30. -/
theorem image_validates : ∀ k ∈ [(0 : Byte), 1],
    (∃ p, validate 31 true (memoryOf (image k)) = .ok p ∧ p.curtain = k.toNat
      ∧ (p.library.find? fun d => d.number == p.warningCall).isSome = true)
    ∧ validate 30 true (memoryOf (image k)) = .error .noStationSection := by
  intro k hk
  have h0 : crc16 (imagePieces k).flatten = imageCrc (memoryOf (image k)) := by
    simp only [List.mem_cons, List.not_mem_nil, or_false] at hk
    obtain rfl | rfl := hk
    · rw [image_crc.1]; decide +kernel
    · rw [image_crc.2]; decide +kernel
  have h1 : ∀ k ∈ [(0 : Byte), 1], imageRest (memoryOf (image k)) = (imagePieces k).flatten := by decide +kernel
  have h3 : ∀ k ∈ [(0 : Byte), 1],
      imageFormat (memoryOf (image k)) = 1 ∧ (imageLength (memoryOf (image k))).toNat = 263 := by decide +kernel
  have h4 : ∀ k ∈ [(0 : Byte), 1], imageSections (memoryOf (image k)) = some [imageHouse, imageOwn k] := by decide +kernel
  have h5 : ∀ k ∈ [(0 : Byte), 1], (match readFields 31 imageHouse (imageOwn k) with
      | .ok p => p.curtain == k.toNat && (p.library.find? fun d => d.number == p.warningCall).isSome
      | .error _ => false) = true := by
    decide +kernel
  have h6 : imageHouse.number = 0 ∧ ∀ k, (imageOwn k).number = 31 := ⟨rfl, fun _ => rfl⟩
  simp only [validate, h1 k hk, h3 k hk, h4 k hk, h0, sectionOf, List.find?_cons, List.find?_nil, h6]
  have h7 := h5 k hk
  cases h : readFields 31 imageHouse (imageOwn k) with
  | ok p => rw [h] at h7; simp [memorySize]; exact ⟨p, h, by simpa using h7⟩
  | error e => rw [h] at h7; cases h7

/-- The station in BYPASS. -/
def bypassed : State :=
  calm { home with loop := { Loop.reset with portA := PortRec.reset, portB := PortRec.reset } }

/-- Port A is down. -/
def cut : State :=
  calm { home with
    loop := { home.loop with portA := { PortRec.reset with state := .down } }
    house := { home.house with flags := ⟨true, false, false, false⟩ } }

/-- Port A is down in BYPASS with a join count, and port B has counted to 2. -/
def cutInBypass (n : Nat) : State :=
  calm { home with
    loop := { Loop.reset with
      portA := { PortRec.reset with state := .down, joinCount := n }
      portB := { PortRec.reset with joinCount := 2 } }
    house := { home.house with flags := ⟨true, false, false, false⟩ } }

/-- A frame of n bytes in progress on port A. -/
def gathering (bytes : List Byte) : State :=
  { home with loop := { home.loop with portA := { home.loop.portA with frame := some bytes } } }

/-- A frame with a CALL_CANCEL. -/
def cancelFrame (origin seq hop : Byte) : Frame := ⟨origin, seq, hop, 10, [20]⟩

/-- Sixteen entries none of which a PHASE can displace. -/
def full : State := { home with notices := { home.notices with
  nextAge := 16
  queue := (List.range 16).map fun i => ⟨.houseCmd .evacuate (byteOf i), i, none, false, false⟩ } }

/-- Zone 7 with an isolation of a kind. -/
def isolated (k : IsolationKind) (warned : Bool) : State :=
  inZone (fun z => { z with isolated := true, isolation := some ⟨k, some 400000000, warned⟩ }) home

/-- Call 31 and call 20 bound as in Table 9-5 at 20.0 s, before call 50. -/
def ringing : State := { home with calls := { home.calls with
  nextStamp := 3
  queue := [⟨31, 2, 0, 10, 4, 1, true, false, 2, [⟨1, 255, some 3⟩]⟩,
    ⟨20, 31, 2, 30, 2, 0, false, false, 0, [⟨1, 3, some 1⟩, ⟨2, 3, some 2⟩]⟩]
  channels := [⟨1, true, 1, true, .interval 32000000, some 20, 2⟩, ⟨2, true, 2, true, .sounding 2 32000000, some 20, 2⟩,
    ⟨3, true, 1, false, .sounding 0 23200000, some 31, 255⟩] ++ (Calls.reset.channels.drop 3) } }

/-- Station 9 is ABSENT, and curtain 2 is held as its own, not present. -/
def lostPeer : State := { home with
  notices := { home.notices with roster := home.notices.roster.map fun p => if p.number = 9 then Peer.reset 9 else p }
  house := { home.house with curtains := home.house.curtains.map fun c => if c.curtain = 2 then { c with station := 9 } else c } }

/-! ### Witnesses: every statement's hypotheses are met -/

theorem witness_StepRunsFrontCommand : State.reset.pending = [] := rfl

theorem witness_OnlyOwnersChangeStartKeysMemory :
    (∃ t, exec .fadeTick home = .next t) ∧ (∀ d u, Instr.fadeTick ≠ .powerOnReset d u)
    ∧ (∀ d u, Instr.fadeTick ≠ .resetPin d u) ∧ Instr.fadeTick ≠ .profileAccessEnd
    ∧ (∀ a b d e, Instr.fadeTick ≠ .startModeSettled a b d e) ∧ (∀ k, Instr.fadeTick ≠ .managerKeyChange k)
    ∧ (∀ k, Instr.fadeTick ≠ .engineerKeyChange k) :=
  ⟨⟨_, rfl⟩, nofun, nofun, nofun, nofun, nofun, nofun⟩

/-- The station with a command waiting meets every law, and its step answers a next state. -/
theorem witness_StepKeepsLaws :
    (waiting.LevelLaw ∧ waiting.OwnEntryLaw) ∧ waiting.FlagsLaw ∧ waiting.CurtainLaw ∧ waiting.StageLaw ∧ waiting.LightLaw
    ∧ waiting.ZoneLaw ∧ waiting.LatchLaw ∧ waiting.QueueLaw ∧ waiting.StoreLaw ∧ waiting.ReplyLaw ∧ waiting.loop.JoinLaw
    ∧ waiting.ViewLaw ∧ (∃ t, step waiting = .next t) := by
  refine ⟨quiet_of (by decide +kernel), by unfold State.FlagsLaw; decide +kernel, by unfold State.CurtainLaw; decide +kernel,
    by unfold State.StageLaw; decide +kernel, by simp only [State.LightLaw, LightChannel.obeys]; decide +kernel,
    by simp only [State.ZoneLaw, ZoneRec.obeys]; decide +kernel, by unfold State.LatchLaw; decide +kernel,
    by unfold State.QueueLaw; decide +kernel, store_of (by decide +kernel), by unfold State.ReplyLaw; decide +kernel,
    ⟨by decide +kernel, nofun⟩, by simp only [State.ViewLaw, ViewEntry.tells]; decide +kernel, ⟨_, rfl⟩⟩

/-- The rest of the laws. -/
theorem witness_StepKeepsFadeRosterMemory : waiting.FadeLaw ∧ waiting.RosterLaw ∧ waiting.MemoryLaw := by
  refine ⟨?_, ⟨by decide +kernel, by simp only [Peer.obeys]; decide +kernel⟩, by decide +kernel, by intro a h; exact nomatch h⟩
  have h : ∀ c ∈ waiting.lights.channels, c.fade = none ∧ c.pending = none ∧ c.level ≤ 1000 ∧ c.floor ≤ 1000 := by
    decide +kernel
  intro c hc
  obtain ⟨h1, h2, h3, h4⟩ := h c hc
  exact ⟨h3, h4, by simp [h1], by simp [h2]⟩

/-- Calls bound to three channels, and a step of their station. -/
theorem witness_StepKeepsCallLaw : ringing.CallLaw ∧ ∃ t, step { ringing with pending := [.fadeTick] } = .next t := by
  refine ⟨⟨bound_of (by decide +kernel), by unfold Calls.Ranked; decide +kernel, obeys_of (by decide +kernel), by decide +kernel,
    by decide +kernel⟩, ⟨_, rfl⟩⟩

/-- A zone that is confirmed by its expired ack window, with the curtain DOWN, and with the curtain UP, which the level drops with a
warning call that DROP_ON_ALARM drops; and a DROP with a warning call that is served. -/
theorem witness_EveryChangeIsTold :
    let warned (call : Nat) (s : State) : State := inCurtain (fun g => { g with state := .up, upClosed := true })
      { s with start := { s.start with profile := { s.start.profile with warningCall := call } } }
    (∀ s ∈ [alerted, warned 44 alerted, warned 20 home], s.QueueLaw ∧ s.ZoneLaw ∧ s.ViewLaw ∧ quietCheck s = true)
    ∧ (∀ s ∈ [alerted, warned 44 alerted], (exec (.ackWindowExpiry 7) s matches .next _) = true
        ∧ ((after (.ackWindowExpiry 7) s).zone? 7).map ZoneRec.state = some .confirmed ∧ (s.zone? 7).map ZoneRec.state = some .alert
        ∧ (after (.ackWindowExpiry 7) s).house.level ≠ s.house.level)
    ∧ (∀ x ∈ [(after (.ackWindowExpiry 7) (warned 44 alerted), 44, true), (after (.curtainDrop 1 1) (warned 20 home), 20, false)],
        x.1.gov.state = .dropping ∧ (x.1.definition? x.1.start.profile.warningCall).map (fun d => (d.number, d.dropOnAlarm))
          = some (x.2.1, x.2.2)
        ∧ ((x.1.definition? x.1.start.profile.warningCall).any fun d => !(x.1.calls.served (areasOf d.areas)).isEmpty
            && (d.dropOnAlarm == decide (d.priority ≤ x.1.house.level))) = true) := by
  simp only [State.QueueLaw, State.ZoneLaw, ZoneRec.obeys, State.ViewLaw, ViewEntry.tells]
  decide +kernel

theorem witness_NoticeReadsBack :
    Notice.inRange (.houseCmd .evacuate 0xFF) = true ∧ Notice.inRange (.callAck 250 8) = true
    ∧ Notice.inRange (.callAck 1 1) = true ∧ Notice.inRange (.alertAction 48 .ack) = true
    ∧ Notice.inRange (.zoneState ⟨1, .silenced, true, 255⟩ .fault) = true
    ∧ Notice.inRange (.curtain ⟨4, .stuck, 25000, true, none⟩ 3) = true
    ∧ Notice.inRange (.call ⟨250, 14, 0xFF, 255, 600, 7, 3, true, true⟩) = true
    ∧ Notice.inRange (.presence ⟨⟨4, 32, 12, 8⟩, .up, .down, .broken, 5, .houseClear, 0xFFFF, 63, true,
        List.replicate 8 ⟨48, .alert, true, 255⟩, some ⟨4, .down, 25000, false, none⟩⟩) = true := by decide +kernel

theorem witness_FrameReadsBack :
    (let f : Frame := ⟨63, 255, 63, 255, List.replicate 48 0xFF⟩;
      1 ≤ f.origin.toNat ∧ f.origin.toNat ≤ 63 ∧ f.hop.toNat ≤ 63 ∧ f.body.length ≤ 48)
    ∧ Frame.ofBytes (Frame.bytes ⟨1, 0, 0, 0, []⟩) = some ⟨1, 0, 0, 0, []⟩ := by decide +kernel

/-- The outcomes of a settling: no image, an image that stands with and without a curtain, and SERVICE (which needs no image),
each with room for the start report and the governor as a reset leaves it. -/
theorem witness_StartModeSettles :
    home.start.mode.isSome = true ∧ State.reset.start.mode = none ∧ State.reset.panel.reports.length < 32
    ∧ (validate 31 true State.reset.memory matches .error .format) = true
    ∧ (∀ k ∈ [(0 : Byte), 1], ∃ p, validate 31 true (memoryOf (image k)) = .ok p ∧ p.curtain = k.toNat
        ∧ (p.library.find? fun d => d.number == p.warningCall).isSome = true)
    ∧ (validate 0 true (memoryOf (image 0)) matches .error .noNumber) = true
    ∧ (∀ down ∈ [false, true], ∀ up ∈ [false, true],
        let s := State.afterReset .powerOn down up (memoryOf (image 1)) true 1 []
        s.start.mode = none ∧ s.gov = ⟨0, .down, .none, none, .none, false, none, 0, s.gov.downClosed, s.gov.upClosed, s.gov.raiseKey⟩) :=
  ⟨by decide +kernel, by decide +kernel, by decide +kernel, by decide +kernel, fun k hk => (image_validates k hk).1,
    by decide +kernel, by decide +kernel⟩

/-- Images that meet each check: too short or too long, of another CRC, without sections, of unsound fields (an empty section of
the house), and one that passes. -/
theorem witness_ProfileIsValidated :
    Memory.read State.reset.memory 0 ≠ 1
    ∧ (∀ len ∈ [[(0 : Byte), 5], [0x10, 0x01]], let m := memoryOf ([1, 1] ++ len);
        Memory.read m 0 = 1 ∧ imageLength m ∈ [(5 : Half), 4097])
    ∧ (crc16 [] ≠ 0 ∧ crc16 [] = 0xFFFF ∧ ∀ l : List Section, l.length = 0 → (l.map Section.number)[0]? ≠ some 0)
    ∧ crc16 [0, 0, 0, 31, 0, 0] = 0x6142
    ∧ (imagePieces 0).flatten = [imageHouse, imageOwn 0].flatMap (fun x => byteOf x.number :: (halfOf x.fields.length ++ x.fields))
    ∧ (∀ x ∈ [imageHouse, imageOwn 0], x.number ≤ 63 ∧ x.fields.length ≤ 65535)
    ∧ crc16 (imagePieces 0).flatten = 0x6487
    ∧ (let h := imageHouse.fields; let b := (imageOwn 0).fields;
        let at_ (b : List Byte) (i : Nat) : Nat := ((b[i]?).getD 0).toNat;
        at_ h 48 = 1 ∧ h.length = 56 + 9 * 1 ∧ at_ h 57 ≤ 3 ∧ (∀ z ∈ h.take 48, z.toNat ≤ 63)
        ∧ at_ b 80 = 1 ∧ b.length = 185 + 1 ∧ at_ b 0 ≤ 4 ∧ at_ b 15 ≤ 1 ∧ (∀ k ∈ List.range 32, at_ b (16 + 2 * k) ≤ 3)
        ∧ (∀ i ∈ [86, 88, 89, 160, 162, 164], at_ b i ≤ 1) ∧ ((h.take 48).filter fun z => z.toNat == 31).length ≤ 8) := by
  refine ⟨by decide +kernel, by decide +kernel, ⟨by decide, by decide, ?_⟩, by decide +kernel, by decide +kernel, by decide +kernel,
    image_crc.1, by decide +kernel⟩
  intro l h; rw [List.length_eq_zero_iff.mp h]; nofun

theorem witness_LoopSymbolsGather :
    (home.Quiet ∧ (home.loop.port .a).frame = none ∧ (home.loop.dir (ringInto .a)).crowded = false ∧ home.hears .a .opening = true)
    ∧ ((gathering (List.replicate 54 0)).Quiet ∧ ((gathering (List.replicate 54 0)).loop.port .a).frame = some (List.replicate 54 0))
    ∧ ((gathering (List.replicate 55 0)).Quiet ∧ ((gathering (List.replicate 55 0)).loop.port .a).frame = some (List.replicate 55 0)
        ∧ 55 ≤ (List.replicate 55 (0 : Byte)).length)
    ∧ (let s : State := { home with loop := { home.loop with join := .selfTest } };
        (s.Quiet ∧ s.StoreLaw) ∧ s.loop.join = .selfTest ∧ s.hears .a .abort = false ∧ s.hears .a .gapFill = true) :=
  ⟨⟨quiet_of (by decide +kernel), by decide +kernel⟩, ⟨quiet_of (by decide +kernel), by decide +kernel⟩,
    ⟨quiet_of (by decide +kernel), by decide +kernel⟩, ⟨quiet_of (by decide +kernel), store_of (by decide +kernel)⟩, by decide +kernel⟩

theorem witness_GapFillCountsAndRaisesPort :
    (home.Quiet ∧ (home.loop.port .a).state = .up ∧ home.loop.join ≠ .bypass ∧ home.hears .a .gapFill = true)
    ∧ ((gathering []).Quiet ∧ ((gathering []).loop.port .a).frame.isSome = true)
    ∧ (let s : State := { bypassed with start := { home.start with mode := some .service } };
        quietCheck s = true ∧ (s.loop.port .b).state = .up ∧ s.loop.join = .bypass ∧ s.mayJoin = false)
    ∧ (cut.Quiet ∧ (cut.loop.port .a).state = .down ∧ cut.loop.join ≠ .bypass)
    ∧ (∀ n ∈ [0, 1], let s := cutInBypass n;
        quietCheck s = true ∧ (s.loop.port .a).state = .down ∧ s.loop.join = .bypass ∧ s.hears .a .gapFill = true
        ∧ s.mayJoin = true ∧ (s.loop.port .a).joinCount = n)
    ∧ (let s : State := { home with loop := { home.loop with join := .selfTest, dirAB := ⟨.sendInsert (cancelFrame 31 0 63) 99, []⟩ } };
        quietCheck s = true ∧ s.hears .a .gapFill = false) :=
  ⟨⟨quiet_of (by decide +kernel), by decide +kernel⟩, ⟨quiet_of (by decide +kernel), by decide +kernel⟩, by decide +kernel,
    ⟨quiet_of (by decide +kernel), by decide +kernel⟩, by decide +kernel, by decide +kernel⟩

theorem witness_StationJoins :
    (bypassed.Quiet ∧ bypassed.loop.join = .bypass ∧ bypassed.mayJoin = true)
    ∧ ((bypassed.loop.port .a).state = .up ∧ bypassed.loop.loneDue = some 500000)
    ∧ (let counted (n : Nat) := ((bypassed.onPort .b fun r => { r with joinCount := 2 }).onPort .a fun r => { r with joinCount := n });
        (counted 2).loop.joinReady = true ∧ (counted 1).loop.joinReady = false) :=
  ⟨⟨quiet_of (by decide +kernel), by decide +kernel⟩, by decide +kernel, by decide +kernel⟩

/-- A port that is UP, one that is DOWN, one in SELF_TEST, and one whose silence completes the counts in BYPASS. -/
theorem witness_SilentPortGoesDown :
    (home.Quiet ∧ home.LightLaw ∧ (home.loop.port .b).state = .up ∧ home.loop.join ≠ .bypass)
    ∧ (cut.Quiet ∧ cut.LightLaw ∧ (cut.loop.port .a).state = .down)
    ∧ (let s : State := { home with loop := { home.loop with join := .selfTest } }; quietCheck s = true ∧ s.loop.join = .selfTest
        ∧ s.loop.dirAB.tx = .gap 20 ∧ s.loop.portA.silenceDue = 20000
        ∧ let t := s.onPort .a fun r => { r with silenceDue := 10 }; quietCheck t = true ∧ t.LightLaw ∧ t.loop.portA.silenceDue = 10)
    ∧ (let s : State := bypassed.onPort .b fun r => { r with joinCount := 2 };
        quietCheck s = true ∧ s.LightLaw ∧ (s.loop.port .a).state = .up ∧ s.loop.join = .bypass ∧ s.mayJoin = true
        ∧ (s.loop.setPort .a { s.loop.port .a with state := .down, frame := none, joinCount := 0 }).joinReady = true
        ∧ s.notices.roundDue ≠ none) := by
  simp only [State.LightLaw, LightChannel.obeys]
  exact ⟨⟨quiet_of (by decide +kernel), by decide +kernel, by decide +kernel⟩,
    ⟨quiet_of (by decide +kernel), by decide +kernel, by decide +kernel⟩, by decide +kernel, by decide +kernel⟩

/-- A frame that is not good, frames of the own origin with and without an awaiting entry and with integrity OPEN, and frames of
station 9. -/
theorem witness_LoopFrameIsHandled :
    (∀ f ∈ [cancelFrame 31 5 60, cancelFrame 9 41 0, cancelFrame 9 40 5, cancelFrame 63 0 63],
      quietCheck (gathering f.bytes) = true ∧ Frame.ofBytes f.bytes = some f ∧ (gathering f.bytes).hears .a .closing = true)
    ∧ (∀ j ∈ [JoinState.bypass, .echoTest, .selfTest],
        let s : State := { gathering [1, 2] with loop := { (gathering [1, 2]).loop with join := j } };
        quietCheck s = true ∧ (s.loop.port .a).frame = some [1, 2] ∧ s.loop.join = j ∧ s.hears .a .closing = true)
    ∧ (let s : State := { gathering [1] with loop := { (gathering [1]).loop with
          join := .selfTest, dirAB := ⟨.sendInsert (cancelFrame 31 0 63) 99, []⟩ } };
        quietCheck s = true ∧ s.hears .a .closing = false)
    ∧ Frame.ofBytes [1, 2] = none
    ∧ (home.notices.awaiting.find? (fun a => a.seq == 5) = none)
    ∧ (∀ returned ∈ [false, true],
        let a : Awaiting := ⟨5, 0, true, true, false, returned⟩
        [a].find? (fun a => a.seq == 5) = some a
        ∧ ((a.setReturned (ringInto .a)).returnedAB && (a.setReturned (ringInto .a)).returnedBA) = returned)
    ∧ (∀ i ∈ [Integrity.whole, .broken],
        let s : State := { gathering [1] with notices := { home.notices with integrity := i } };
        quietCheck s = true ∧ s.notices.integrity = i)
    ∧ (home.peer? 9 = some ⟨9, .present, some 40, some 6000000, some .ba, false, none, none⟩
        ∧ Peer.accepts ⟨9, .present, some 40, some 6000000, some .ba, false, none, none⟩ 40
          (Notice.parse 10 [20]) = false) := by decide +kernel

theorem witness_AcceptedNoticeWritesRoster :
    let f := cancelFrame 9 167 1
    let q : Peer := ⟨9, .present, some 40, some 6000000, some .ba, false, none, none⟩
    ((gathering f.bytes).loop.port .a).frame = some f.bytes ∧ Frame.ofBytes f.bytes = some f
    ∧ (gathering f.bytes).loop.join = .active ∧ f.hop ≠ 0 ∧ f.origin.toNat ≠ (gathering f.bytes).start.station
    ∧ (gathering f.bytes).peer? f.origin.toNat = some q ∧ q.accepts f.seq (Notice.parse f.kind f.body) = true := by
  decide +kernel

/-- Station 9's frame of a notice, completed on port A of a state. -/
def heard (s : State) (n : Notice) : State :=
  { s with loop := { s.loop with portA := { s.loop.portA with frame := some (Frame.bytes ⟨9, 41, 1, n.kindCode, n.body⟩) } } }

/-- A notice of every kind of Table 2-1; a PRESENCE with FRESH, of a restart, among them. -/
def everyNotice : List Notice :=
  [.presence ⟨⟨2, 1, 1, 1⟩, .up, .up, .whole, 0, .closed, 1, 9, true, [⟨8, .confirmed, false, 9⟩], some ⟨2, .up, 9000, true, none⟩⟩,
    .zoneState ⟨8, .confirmed, false, 4⟩ .heat, .alertAction 7 .ack, .houseCmd .houseReset 3, .phase .houseClear 1,
    .curtain ⟨2, .stuck, 25000, false, some .stall⟩ 0, .curtainReq 1 .drop, .lightCue 4 (.cue 100 10),
    .call ⟨20, 2, 3, 3, 30, 2, 0, false, false⟩, .callCancel 20, .callAck 20 8]

/-- Each kind of notice, from a peer that is PRESENT and from one that is ABSENT; alert actions on a zone in ALERT, in another
state, and of another station; a request for the own curtain and for another. -/
theorem witness_DeliveredNoticesAct :
    (∀ s ∈ [home, lostPeer, alerted], ∀ n ∈ everyNotice ++ [.alertAction 8 .confirm, .curtainReq 4 .lower],
      let f : Frame := ⟨9, 41, 1, n.kindCode, n.body⟩
      ((heard s n).loop.port .a).frame = some f.bytes ∧ (heard s n).loop.join = .active ∧ f.hop ≠ 0
      ∧ f.origin.toNat ≠ (heard s n).start.station ∧ Notice.parse f.kind f.body = some n
      ∧ ((heard s n).peer? f.origin.toNat).any (fun q => q.accepts f.seq (some n)) = true ∧ quietCheck (heard s n) = true)
    ∧ (∀ n ∈ everyNotice, Frame.ofBytes (Frame.bytes ⟨9, 41, 1, n.kindCode, n.body⟩) = some ⟨9, 41, 1, n.kindCode, n.body⟩)
    ∧ (∀ s ∈ [home, lostPeer, alerted], (s.zones.map ZoneRec.number).Nodup ∧ s.zones.length ≤ 8)
    ∧ (∀ n ∈ everyNotice, (heard alerted n).StoreLaw) ∧ alerted.ZoneLaw ∧ alerted.ViewLaw ∧ lostPeer.ZoneLaw ∧ lostPeer.ViewLaw
    ∧ (alerted.zone? 7).map ZoneRec.state = some .alert ∧ alerted.zone? 8 = none ∧ alerted.gov.curtain = 1
    ∧ (lostPeer.peer? 9).map Peer.state = some .absent ∧ (home.peer? 9).map Peer.state = some .present := by
  refine ⟨by decide +kernel, by decide +kernel, by decide +kernel, fun n hn => ?_, ?_⟩
  · have h : ∀ n ∈ everyNotice, ∀ bytes ∈ (heard alerted n).loop.portA.frame.toList, bytes.length ≤ 55 := by decide +kernel
    obtain ⟨h1, h2, h3, h4, h5, h6, h7, h8, h9, h10, h11, h12, h13, h14, -, h16⟩ : alerted.StoreLaw := store_of (by decide +kernel)
    exact ⟨h1, h2, h3, h4, h5, h6, h7, h8, h9, h10, h11, h12, h13, h14, fun x hx => h n hn x (by simp [hx]), h16⟩
  · refine ⟨?_, ?_, ?_, ?_, by decide +kernel⟩
      <;> simp only [State.ZoneLaw, ZoneRec.obeys, State.ViewLaw, ViewEntry.tells] <;> decide +kernel

/-- GAP, and an insertion aborted, with a frame to repeat; a repeat; a moment within each symbol of a frame. -/
theorem witness_TransmittersSendSymbols :
    let f := cancelFrame 9 41 1
    (∀ r ∈ [Ring.ab, .ba], ({ home.loop with dirAB := ⟨.gap 20, [f]⟩, dirBA := ⟨.gap 20, [f]⟩ } : Loop).dir r = ⟨.gap 20, f :: []⟩)
    ∧ ({ home.loop with dirAB := ⟨.sendAbort f 99 40, [f]⟩ } : Loop).dir .ab = ⟨.sendAbort f 99 40, f :: []⟩
    ∧ ({ home.loop with dirBA := ⟨.sendRepeat f 99, []⟩ } : Loop).dir .ba = ⟨.sendRepeat f 99, []⟩
    ∧ (∀ k ∈ [0, 1, 8, 9, 10], 0 + 10 * k ≤ 10 * k + 9 ∧ 10 * k + 9 < 0 + 10 * k + 10)
    ∧ (∀ j ∈ [JoinState.bypass, .active, .echoTest, .selfTest], ({ home.loop with join := j } : Loop).join = j) := by decide +kernel

/-- An entry to insert, in ACTIVE and in SELF_TEST; a completion with fewer than 16 awaiting, with 16, and with an entry of its
sequence; a crowded insertion. -/
theorem witness_InsertionSendsOrAborts :
    let e : TxEntry := ⟨.callCancel 20, 0, none, false, false⟩
    let s : State := { home with notices := { home.notices with queue := [e] } }
    let f := cancelFrame 9 41 1
    let crowded : State := { home with loop := { home.loop with dirAB := ⟨.sendInsert (cancelFrame 31 0 63) 99, [f, f]⟩ } }
    let long : List Awaiting := (List.range 16).map fun i => ⟨byteOf (i + 1), 100 - i, true, false, false, false⟩
    (∀ j ∈ [JoinState.active, .selfTest], let s : State := { s with loop := { s.loop with join := j } };
      (s.loop.join = .active ∨ s.loop.join = .selfTest) ∧ s.loop.dir .ba = ⟨.gap 20, []⟩
      ∧ (s.loop.port (upstreamPort .ba)).frame = none ∧ (s.loop.port (outgoingPort .ba)).state = .up
      ∧ s.notices.queue.find? (fun e => !e.countsOn s.loop .ba) = some e)
    ∧ (({ s.loop with dirAB := ⟨.sendInsert (cancelFrame 31 0 63) 99, []⟩ } : Loop).dir .ab
          = ⟨.sendInsert (cancelFrame 31 0 63) 99, []⟩ ∧ s.notices.awaiting.length < 16
        ∧ s.notices.awaiting.any (fun a => a.seq == 0) = false)
    ∧ (16 ≤ long.length ∧ long.any (fun a => a.seq == 0) = false ∧ long.any (fun a => a.seq == 16) = true
        ∧ ∃ a, long = long.take 15 ++ a :: [] ∧ ∀ b ∈ long.take 15, a.sendTime < b.sendTime)
    ∧ (crowded.Quiet ∧ crowded.loop.join ≠ .selfTest ∧ crowded.loop.dir .ab = ⟨.sendInsert (cancelFrame 31 0 63) 99, [f, f]⟩
        ∧ 2 ≤ [f, f].length) :=
  ⟨by decide +kernel, by decide +kernel, ⟨by decide, by decide, by decide, ⟨16, 85, true, false, false, false⟩, by decide, by decide⟩,
    quiet_of (by decide +kernel), by decide +kernel, by decide +kernel, by decide +kernel⟩

/-- Every join state with a panel that takes commands at once. -/
theorem witness_LoopTestTable (j : JoinState) :
    let s : State := { home with loop := { home.loop with join := j } }
    s.Ready ∧ s.Quiet :=
  ⟨by unfold State.Ready; cases j <;> decide +kernel, quiet_of (by cases j <;> decide +kernel)⟩

theorem witness_ReturnsAndPeersExpire :
    let with_ (i : Integrity) (a : Awaiting) : State := { home with notices := { home.notices with integrity := i, awaiting := [a] } }
    let missed : Awaiting := ⟨5, 0, true, false, false, false⟩
    let back : Awaiting := ⟨5, 0, true, true, true, true⟩
    home.LightLaw
    ∧ (∀ s ∈ [with_ .whole missed, with_ .broken missed, with_ .whole back], quietCheck s = true
        ∧ s.loop.portB.state = .up)
    ∧ (with_ .whole missed).notices.awaiting.find? (fun a => a.seq == 5) = some missed
    ∧ ((missed.sentAB = true ∧ missed.returnedAB = false) ∧ back.returnedAB = true ∧ back.returnedBA = true)
    ∧ home.peer? 9 = some ⟨9, .present, some 40, some 6000000, some .ba, false, none, none⟩ ∧ 9 ≠ home.start.station
    ∧ home.StoreLaw := by
  simp only [State.LightLaw, LightChannel.obeys]
  refine ⟨by decide +kernel, by decide +kernel, by decide +kernel, by decide +kernel, by decide +kernel, by decide +kernel, ?_⟩
  exact store_of (by decide +kernel)

theorem witness_RoundOffersPresence : home.notices.roundDue = some 2000000 := by decide +kernel

/-- A queue with room, with both ports DOWN, full with nothing lower, full with a lower entry, with an entry to merge over, and at
the last age stamp. -/
theorem witness_TransmitQueueTakesNotice :
    (home.notices.offer home.loop (.callCancel 20)).isSome = true ∧ home.loop.portA.state = .up
    ∧ (let l : Loop := { cut.loop with portB := { PortRec.reset with state := .down } };
        (home.notices.offer l (.callCancel 20)).isSome = true ∧ l.portA.state = .down ∧ l.portB.state = .down)
    ∧ full.notices.offer full.loop (.phase .interval 1) = none
    ∧ (let ns : Notices := { full.notices with queue := full.notices.queue.dropLast ++ [⟨.callCancel 3, 15, none, true, false⟩] };
        (ns.offer home.loop (.phase .interval 1)).isSome = true ∧ 16 ≤ ns.queue.length)
    ∧ (let ns : Notices := { home.notices with queue := [⟨.zoneState ⟨7, .quiet, false, 1⟩ .smoke, 3, some 9, true, false⟩] };
        (ns.offer home.loop (.zoneState ⟨7, .alert, false, 2⟩ .smoke)).isSome = true
        ∧ ∃ e ∈ ns.queue, (Notice.zoneState ⟨7, .alert, false, 2⟩ .smoke).mergesWith e.notice = true)
    ∧ (let ns : Notices := { full.notices with queue := full.notices.queue.take 3, nextAge := 65535 };
        (ns.offer home.loop (.callCancel 3)).isSome = true ∧ ¬ ns.nextAge < 65535) := by decide +kernel

theorem witness_LineFollowsPersistentClass :
    LineKind.smoke ≠ .unused ∧ (LineRec.reset 32).kind = .unused ∧ (⟨6, .manual, 7, some 20, 3, .normal, false⟩ : LineRec).kind ≠ .unused
    ∧ (∀ st ∈ [LineState.preAlarm, .alarm, .faultOpen, .normal], ∃ l ∈ [(⟨4, .smoke, 7, some 50, 3, st, false⟩ : LineRec)],
        l.kind ≠ .unused ∧ l.zone = 7 ∧ ¬(l.kind = .smoke ∧ false = true) ∧ l.state = st) := by
  decide

theorem witness_LineSampleMovesZones :
    (home.lines.sampleDue = some 250000 ∧ (home.zones.map ZoneRec.number).Nodup)
    ∧ (warming.lines.sampleDue = some 250000 ∧ (warming.zones.map ZoneRec.number).Nodup) := by decide +kernel

/-- Zone 7 under investigation. -/
def investigated : State :=
  inZone (fun z => { z with acknowledged := true, ackDue := none, investigationDue := some 180000000 }) alerted

theorem witness_ExpiryConfirmsZone :
    (∃ r, alerted.zone? 7 = some r ∧ r.state = .alert ∧ r.ackDue = some 30000000 ∧ r.investigationDue = none
      ∧ ∃ v, alerted.view? 7 = some v)
    ∧ (∃ r, investigated.zone? 7 = some r ∧ r.state = .alert ∧ r.investigationDue = some 180000000 ∧ r.ackDue = none) :=
  ⟨⟨_, rfl, by decide +kernel, by decide +kernel, by decide +kernel, _, rfl⟩, _, rfl, by decide +kernel, by decide +kernel, by decide +kernel⟩

theorem witness_AlertActionsAtOwner :
    (alerted.Ready ∧ alerted.Quiet ∧ alerted.zoneKnown 7 = true ∧ (alerted.zone? 7).map ZoneRec.state = some .alert)
    ∧ (home.Ready ∧ home.Quiet ∧ home.zoneKnown 7 = true ∧ (home.zone? 7).map ZoneRec.state = some .quiet)
    ∧ (let s := after (.ackWindowExpiry 7) alerted;
        quietCheck s = true ∧ (s.zone? 7).map (fun z => (z.state, z.lastCause)) = some (.confirmed, some .ackExpiry)) := by
  refine ⟨⟨by unfold State.Ready; decide +kernel, quiet_of (by decide +kernel), by decide +kernel, by decide +kernel⟩,
    ⟨by unfold State.Ready; decide +kernel, quiet_of (by decide +kernel), by decide +kernel, by decide +kernel⟩, by decide +kernel⟩

/-- Curtain 2 is known at station 9. -/
def neighbour : State := { home with house := { home.house with
  curtains := home.house.curtains.map fun c => if c.curtain = 2 then { c with station := 9 } else c } }

theorem witness_OthersMattersAreForwarded :
    (neighbour.Ready ∧ neighbour.Quiet)
    ∧ (neighbour.zoneKnown 0 = false ∧ neighbour.zoneKnown 49 = false ∧ neighbour.zoneKnown 9 = false)
    ∧ (neighbour.zoneKnown 8 = true ∧ neighbour.zone? 8 = none)
    ∧ (∀ n ∈ [2, 3, 4], 1 ≤ n ∧ n ≤ 4 ∧ neighbour.gov.curtain ≠ n)
    ∧ (neighbour.curtain? 2).map CurtainEntry.station = some 9 ∧ (neighbour.curtain? 4).map CurtainEntry.station = some 0
    ∧ State.engineerTurned { neighbour with engineer := some .off } = false :=
  ⟨⟨by unfold State.Ready; decide +kernel, quiet_of (by decide +kernel)⟩, by decide +kernel⟩

/-- Reaching SUSPEND with an isolation held, leaving it, an engineer key that does neither, and a first position. -/
theorem witness_KeysMove :
    (home.Quiet ∧ (home.suspended = true ↔ EngineerPos.on = .suspend))
    ∧ ((isolated .show false).ZoneLaw ∧ (isolated .show false).ViewLaw ∧ (isolated .show false).engineer ≠ none
        ∧ ¬((isolated .show false).suspended = true ↔ EngineerPos.suspend = .suspend))
    ∧ (let s : State := { home with engineer := some .suspend };
        s.ZoneLaw ∧ s.ViewLaw ∧ s.engineer ≠ none ∧ ¬(s.suspended = true ↔ EngineerPos.off = .suspend))
    ∧ (let s : State := { isolated .show false with engineer := none }; s.Quiet ∧ s.engineer = none) := by
  refine ⟨⟨quiet_of (by decide +kernel), by decide +kernel⟩, ?_, ?_, quiet_of (by decide +kernel), rfl⟩
    <;> simp only [State.ZoneLaw, ZoneRec.obeys, State.ViewLaw, ViewEntry.tells] <;> decide +kernel

/-- What ISOLATE meets: each check of Table 4-1, and none. -/
theorem witness_IsolateFollowsTable :
    (home.Ready ∧ home.Quiet ∧ home.ZoneLaw)
    ∧ (1 < (2 : Byte).toNat ∧ (1 : Byte).toNat ≤ 1)
    ∧ (home.start.profile.owner 48 = 0 ∧ home.start.profile.owner 8 = 9 ∧ home.zone? 8 = none)
    ∧ (home.start.profile.owner 7 ≠ 0 ∧ (home.zone? 7).isSome = true)
    ∧ State.managerTurned { home with manager := none } = false ∧ State.engineerTurned { home with engineer := some .off } = false
    ∧ (home.managerTurned = true ∧ home.engineerTurned = true ∧ home.house.phase = .performance ∧ home.house.level = 0
        ∧ (home.zone? 7).map ZoneRec.state = some .quiet ∧ (home.zone? 7).map ZoneRec.isolation = some none)
    ∧ (quietCheck { home with house := { home.house with phase := .interval } } = true)
    ∧ (quietCheck alerted = true ∧ 3 ≤ alerted.house.level)
    ∧ (quietCheck { home with zones := alerted.zones } = true
        ∧ ({ home with zones := alerted.zones } : State).house.level = 0)
    ∧ (quietCheck (isolated .show false) = true ∧ ((isolated .show false).zone? 7).map (fun z => z.isolation.isSome) = some true) :=
  ⟨⟨by unfold State.Ready; decide +kernel, quiet_of (by decide +kernel), by simp only [State.ZoneLaw, ZoneRec.obeys]; decide +kernel⟩,
    by decide +kernel⟩

theorem witness_IsolationEnds :
    (∀ s ∈ [home, isolated .show false, isolated .service false, isolated .show true],
      quietCheck s = true ∧ s.start.profile.owner 7 ≠ 0 ∧ (s.zone? 7).isSome = true)
    ∧ ((isolated .show false).Ready ∧ (isolated .show false).Quiet ∧ (isolated .show false).ViewLaw)
    ∧ (home.start.profile.owner 48 = 0 ∧ home.start.profile.owner 8 ≠ 0 ∧ home.zone? 8 = none)
    ∧ (home.zone? 7).map ZoneRec.isolation = some none
    ∧ ((isolated .show false).zone? 7).map ZoneRec.isolation = some (some ⟨.show, some 400000000, false⟩)
    ∧ (isolated .show false).managerTurned = true
    ∧ State.engineerTurned { isolated .service false with engineer := some .off } = false
    ∧ (let s := after (.engineerKeyChange .suspend) (isolated .show false);
        (s.zone? 7).map (fun z => (z.isolated, z.isolation.isSome)) = some (false, true)) := by
  refine ⟨by decide +kernel, ⟨by unfold State.Ready; decide +kernel, quiet_of (by decide +kernel), ?_⟩, by decide +kernel⟩
  simp only [State.ViewLaw, ViewEntry.tells]; decide +kernel

theorem witness_PhaseIsSet :
    (home.Ready ∧ home.Quiet ∧ home.ZoneLaw) ∧ 5 < (6 : Byte).toNat ∧ (5 : Byte) = Phase.houseClear.code
    ∧ (alerted.Quiet ∧ 2 ≤ alerted.house.level)
    ∧ (∃ c ∈ home.house.curtains, c.present = true ∧ c.proven = false)
    ∧ (quietCheck full = true ∧ full.notices.offer full.loop (.phase .interval 1) = none)
    ∧ ((home.notices.offer home.loop (.phase .interval 1)).isSome = true ∧ Phase.interval ≠ home.house.phase)
    ∧ ((home.notices.offer home.loop (.phase .performance 1)).isSome = true ∧ Phase.performance = home.house.phase)
    ∧ ((isolated .show false).Quiet ∧ (isolated .show false).ZoneLaw ∧ (isolated .show false).ViewLaw
        ∧ ((isolated .show false).zone? 7).map ZoneRec.isolation
        = some (some ⟨.show, some 400000000, false⟩))
    ∧ (∀ z ∈ home.zones, z.isolation = none) := by
  simp only [State.ZoneLaw, ZoneRec.obeys, State.ViewLaw, ViewEntry.tells]
  exact ⟨⟨by unfold State.Ready; decide +kernel, quiet_of (by decide +kernel), by decide +kernel⟩,
    by decide +kernel, by decide +kernel, ⟨quiet_of (by decide +kernel), by decide +kernel⟩, by decide +kernel, by decide +kernel,
    by decide +kernel, by decide +kernel,
    ⟨quiet_of (by decide +kernel), by decide +kernel, by decide +kernel, by decide +kernel⟩, by decide +kernel⟩

theorem witness_HouseCommandsApply :
    (home.Ready ∧ home.Quiet ∧ home.ZoneLaw ∧ home.ViewLaw) ∧ home.managerTurned = true
    ∧ State.managerTurned { home with manager := some .off } = false
    ∧ (∀ c ∈ [HouseCommand.evacuate, .silence, .houseReset], (home.notices.offer home.loop (.houseCmd c 0)).isSome = true
        ∧ full.notices.offer full.loop (.houseCmd c 0) = none)
    ∧ home.view? 0 = some (ViewEntry.reset 0) ∧ (home.zone? 7).isSome = true := by
  refine ⟨⟨by unfold State.Ready; decide +kernel, quiet_of (by decide +kernel), ?_, ?_⟩, by decide +kernel⟩
    <;> simp only [State.ZoneLaw, ZoneRec.obeys, State.ViewLaw, ViewEntry.tells] <;> decide +kernel

/-- The curtain in a state, with limits and an error. -/
def hung (st : CurtainState) (down up : Bool) (error : Option CurtainError) : State :=
  inCurtain (fun g => { g with state := st, downClosed := down, upClosed := up, error := error, raiseKey := true })
    { home with house := { home.house with flags := ⟨false, false, false, error.isSome⟩ } }

/-- Every curtain state. -/
def curtainStates : List CurtainState := [.down, .raising, .raiseHeld, .up, .lowering, .lowerHeld, .dropping, .stuck]

theorem witness_CurtainCommandTable :
    (∀ st ∈ curtainStates, ∀ down ∈ [false, true], ∀ up ∈ [false, true], ∀ error ∈ [none, some CurtainError.late],
      let s := hung st down up error
      quietCheck s = true ∧ s.panel.assembler ≠ .outOfService ∧ s.panel.access = none ∧ s.panel.replies.length < 4
      ∧ s.start.mode ≠ some .profileFault ∧ s.gov.curtain = (1 : Byte).toNat ∧ s.engineerTurned = true)
    ∧ 1 ≤ (1 : Byte).toNat ∧ (1 : Byte).toNat ≤ 4
    ∧ State.engineerTurned { home with engineer := none } = false := by decide +kernel

theorem witness_RaiseAndResume :
    (∀ st ∈ curtainStates, ∀ up ∈ [false, true],
      let s := hung st false up none
      quietCheck s = true ∧ s.gov.raiseKey = true ∧ s.house.level < 3 ∧ s.gov.error = none ∧ s.gov.curtain = (1 : Byte).toNat)
    ∧ ((hung .down false false (some .stall)).gov.error.isSome = true ∧ (hung .down false false (some .stall)).house.level < 3)
    ∧ home.gov.raiseKey = false
    ∧ (let s := inCurtain (fun g => { g with raiseKey := true }) alerted;
        quietCheck s = true ∧ s.gov.raiseKey = true ∧ 3 ≤ s.house.level) := by decide +kernel

theorem witness_LimitEventTable :
    State.reset.start.mode = none
    ∧ (home.start.mode ≠ none ∧ home.gov.limit .down = true)
    ∧ (home.start.mode ≠ none ∧ ({ home with gov := { home.gov with curtain := 0 } } : State).gov.curtain = 0)
    ∧ (∀ st ∈ curtainStates, ∀ down ∈ [false, true], ∀ up ∈ [false, true], ∀ error ∈ [none, some CurtainError.late],
        let s := hung st down up error
        quietCheck s = true ∧ s.start.mode ≠ none ∧ s.gov.curtain ≠ 0 ∧ s.gov.limit .down = down ∧ s.gov.limit .up = up) := by
  decide +kernel

theorem witness_RaiseKeyAndTimeout :
    (let s : State := { home with gov := { home.gov with curtain := 0 } };
      quietCheck s = true ∧ s.start.mode ≠ none ∧ s.gov.curtain = 0)
    ∧ (State.reset.Quiet ∧ State.reset.start.mode = none)
    ∧ (home.Quiet ∧ home.gov.curtain ≠ 0 ∧ home.gov.state ≠ .raising)
    ∧ ((hung .raising false false none).Quiet ∧ (hung .raising false false none).start.mode ≠ none
        ∧ (hung .raising false false none).gov.curtain ≠ 0 ∧ (hung .raising false false none).gov.raiseKey = true
        ∧ (hung .raising false false none).gov.state = .raising) :=
  ⟨by decide +kernel, ⟨quiet_of (by decide +kernel), rfl⟩, ⟨quiet_of (by decide +kernel), by decide +kernel⟩,
    quiet_of (by decide +kernel), by decide +kernel⟩

theorem witness_TravelSampleActs :
    State.reset.travel.sampleDue = none
    ∧ (∀ st ∈ curtainStates, quietCheck (hung st false false none) = true ∧ (hung st false false none).travel.sampleDue = some 50000) := by
  decide +kernel

theorem witness_SupervisorComputes :
    (let g : Governor := Governor.reset false false; g.state ≠ .lowering ∧ g.state ≠ .dropping ∧ g.state ≠ .raising)
    ∧ (∀ st ∈ [CurtainState.lowering, .dropping], st = .lowering ∨ st = .dropping)
    ∧ (hung .raising false false none).gov.state = .raising := by decide +kernel

/-- A tick due, channels with a buffer that is reached, of 0 and of the whole period, a channel that is not there, and the moments at
which its counter reads 0 and the last count. -/
theorem witness_FadeTickAndPeriod :
    State.reset.lights.tickDue = none ∧ home.lights.tickDue = some 20000 ∧ home.light? 13 = none
    ∧ (home.light? 1).map (fun c => (c.wrapDue, c.compareBuf)) = some (2000, 1600) ∧ home.start.profile.period = 2000
    ∧ home.now ≤ 2000 + 1600 - 2000 ∧ (home.light? 12).map LightChannel.compareBuf = some 0
    ∧ (∀ now ∈ [0, 1999], now < 2000 ∧ 2000 ≤ now + 2000) := by decide +kernel

theorem witness_LightCommands : home.Ready ∧ home.Quiet :=
  ⟨by unfold State.Ready; decide +kernel, quiet_of (by decide +kernel)⟩

theorem witness_CallCommands :
    (home.Ready ∧ home.Quiet ∧ home.StoreLaw)
    ∧ ((0 : Byte).toNat < 1 ∧ 250 < (251 : Byte).toNat ∧ 8 < (9 : Byte).toNat)
    ∧ home.definition? (250 : Byte).toNat = none
    ∧ (home.definition? 20 = some ⟨20, 2, 3, 3, 30, 2, 0, false, false⟩ ∧ home.calls.queue.length < 24
        ∧ ∀ k ∈ home.calls.channels, k.bound = none)
    ∧ ([1, 2, 3, 4, 5, 6, 7, 8].filter fun a => (3 : Byte).getLsbD (a - 1) && home.calls.channels.any fun k => k.inUse && k.area == a)
        = [1, 2]
    ∧ (let stuffed : State := { home with calls := { home.calls with queue := (List.range 24).map fun i =>
          ⟨i + 100, 2, 0, 10, 7, 0, false, false, i, [⟨1, 1, none⟩]⟩ } };
        quietCheck stuffed = true ∧ stuffed.definition? 20 = some ⟨20, 2, 3, 3, 30, 2, 0, false, false⟩
        ∧ stuffed.calls.channels = home.calls.channels ∧ 24 ≤ stuffed.calls.queue.length
        ∧ (∀ r ∈ stuffed.calls.queue, r.number ≠ 20 ∧ r.priority = 7))
    ∧ home.calls.record? 20 = none ∧ (ringing.calls.record? 20).isSome = true ∧ quietCheck ringing = true :=
  ⟨⟨by unfold State.Ready; decide +kernel, quiet_of (by decide +kernel), store_of (by decide +kernel)⟩, by decide +kernel⟩

/-- Dispatchers whose bindings stand: an idle one, one with bound and waiting calls, and one with a full queue of which the last
record is unbound; and calls that are not served, dropped, refreshed, made, displacing, and refused. -/
theorem witness_CallsAreAppliedAndBound :
    let stuffed : Calls := { home.calls with nextStamp := 24, queue := (List.range 24).map fun i =>
      ⟨i + 100, 2, 0, 10, 4, 1, false, false, i, [⟨1, 1, none⟩]⟩ }
    let evacuated : Calls := { home.calls with nextStamp := 1, evacuation := some (evacuationRecord 31 0 [1, 2]) }
    (∀ c ∈ [home.calls, ringing.calls, stuffed, evacuated], c.nextStamp < 65535 ∧ c.Ranked)
    ∧ home.calls.Bound ∧ ringing.calls.Bound ∧ stuffed.Bound ∧ evacuated.Bound
    ∧ (∀ d ∈ bells, 1 ≤ d.number)
    ∧ (([1, 2, 3, 4, 5, 6, 7, 8].filter fun a => (0x80 : Byte).getLsbD (a - 1) && home.calls.channels.any fun k => k.inUse && k.area == a) = []
        ∧ ([1, 2, 3, 4, 5, 6, 7, 8].filter fun a => (0x03 : Byte).getLsbD (a - 1) && home.calls.channels.any fun k => k.inUse && k.area == a) = [1, 2])
    ∧ (∃ r ∈ ringing.calls.queue, r.number = 20) ∧ (∀ r ∈ home.calls.queue, r.number ≠ 20) ∧ 24 ≤ stuffed.queue.length
    ∧ (∃ k ∈ home.calls.channels, k.inUse = true ∧ k.area = 1 ∧ k.state = .idle)
    ∧ (∃ k ∈ ringing.calls.channels, k.state = .interval 32000000 ∧ k.bound = some 20) := by
  refine ⟨?_, bound_of (by decide +kernel), bound_of (by decide +kernel), bound_of (by decide +kernel), bound_of (by decide +kernel),
    by decide +kernel⟩
  simp only [Calls.Ranked]
  decide +kernel

/-- Levels that withdraw, silence, drop, make and free. -/
theorem witness_DispatcherTakesLevel :
    (∀ c ∈ [ringing.calls, { home.calls with nextStamp := 1, evacuation := some (evacuationRecord 31 0 [1, 2]) }], c.Ranked)
    ∧ ringing.calls.Bound
    ∧ Calls.Bound { home.calls with nextStamp := 1, evacuation := some (evacuationRecord 31 0 [1, 2]) }
    ∧ (∀ r ∈ ringing.calls.queue, r.priority ≤ 4) ∧ (∃ k ∈ ringing.calls.channels, k.bound = some 31) := by
  refine ⟨?_, bound_of (by decide +kernel), bound_of (by decide +kernel), by decide +kernel⟩
  simp only [Calls.Ranked]
  decide +kernel

/-- Table 9-6 at 4.0 s: the tone of call 0 has ended on channel 2, and call 60 waits in its area. -/
def barsCalled : State :=
  calm { home with
    house := { home.house with view := home.house.view.map fun v => if v.zone = 0 then { v with state := .confirmed } else v }
    calls := { home.calls with
      nextStamp := 2
      evacuation := some { evacuationRecord 31 0 [1, 2] with items := [⟨1, 255, some 1⟩, ⟨2, 255, some 2⟩] }
      queue := [⟨60, 2, 1, 5, 7, 0, false, false, 1, [⟨2, 2, none⟩]⟩]
      channels := home.calls.channels.map fun k =>
        if k.number ≤ 2 then { k with state := .sounding 15 4000000, bound := some 0, count := 255 } else k } }

theorem test_call_0_yields :
    let t := after (.chimeEnd 2) barsCalled
    t.calls.evacuation.map CallRec.items = some [⟨1, 255, some 1⟩, ⟨2, 255, none⟩]
    ∧ t.calls.queue.map CallRec.items = [[⟨2, 2, some 2⟩]]
    ∧ (t.sounder? 2).map (fun d => (d.state, d.bound, d.count)) = some (.sounding 1 5500000, some 60, 2) := by decide +kernel

/-- Channels without a record, in their interval, and at the end of a chime: with a count left, with a count left and a
higher record waiting, and with none left. -/
theorem witness_ChimesAndIntervals :
    (ringing.Quiet ∧ ringing.StoreLaw) ∧ home.boundRecord 8 = none
    ∧ (ringing.boundRecord 1).map (fun x => x.1.state) = some (.interval 32000000)
    ∧ (ringing.boundRecord 3).map (fun x => (x.1.state, x.1.count)) = some (.sounding 0 23200000, 255)
    ∧ (ringing.boundRecord 2).map (fun x => (x.1.state, x.1.count,
        ringing.calls.ranked.any fun q => q.eligible 0 && q.outranks x.2 && q.wants 2 && x.1.mayTake q.number))
        = some (.sounding 2 32000000, 2, false)
    ∧ (let s : State := { ringing with calls := { ringing.calls with
          queue := ⟨60, 2, 1, 5, 7, 0, false, false, 4, [⟨2, 2, none⟩]⟩ :: ringing.calls.queue } };
        quietCheck s = true
        ∧ (s.boundRecord 2).map (fun x => (x.1.bound, s.calls.ranked.any fun q =>
            q.eligible 0 && q.outranks x.2 && q.wants 2 && x.1.mayTake q.number)) = some (some 20, true))
    ∧ (quietCheck barsCalled = true ∧ (barsCalled.boundRecord 2).map (fun x => (x.1.bound, x.2.number, x.1.count,
        barsCalled.calls.ranked.any fun q => q.eligible 5 && q.outranks x.2 && q.wants 2 && x.1.mayTake q.number))
        = some (some 0, 0, 255, true))
    ∧ (∀ e, ringing.calls.evacuation = some e → e.number = 0)
    ∧ (ringing.calls.channels.map DispatchChannel.number).Nodup
    ∧ (∀ n ∈ [1, 2], (∀ k ∈ ringing.calls.channels, k.bound = some 20 → k.area = n → k.number = n))
    ∧ (let s : State := { home with calls := { home.calls with
          queue := [⟨20, 31, 2, 30, 2, 0, false, false, 0, [⟨2, 1, some 2⟩]⟩]
          channels := home.calls.channels.map fun k =>
            if k.number = 2 then { k with state := .sounding 2 32000000, bound := some 20, count := 1 } else k } };
        quietCheck s = true ∧ (s.boundRecord 2).map (fun x => (x.1.count, x.2.items.all fun i => i.area == 2)) = some (1, true)) := by
  exact ⟨⟨quiet_of (by decide +kernel), store_of (by decide +kernel)⟩, by decide +kernel, by decide +kernel, by decide +kernel,
    by decide +kernel, by decide +kernel, by decide +kernel, nofun, by decide +kernel, by decide +kernel, by decide +kernel⟩

theorem witness_PanelRowsAreFrames :
    (1 ≤ [(0 : Byte)].length ∧ [(0 : Byte)].length ≤ 48)
    ∧ (1 ≤ (List.replicate 48 (0 : Byte)).length ∧ (List.replicate 48 (0 : Byte)).length ≤ 48) := by decide

/-- The panel of the tests in an assembler state. -/
def gatheringPanel (a : Assembler) : State := { home with panel := { home.panel with assembler := a } }

theorem witness_PanelLineCarriesFrames :
    (∀ a ∈ [Assembler.outOfService, .hunt, .length 10000, .rest 2 [5] 10000, .rest 2 [5, 9] 10000],
      quietCheck (gatheringPanel a) = true ∧ (gatheringPanel a).panel.assembler = a)
    ∧ ([5].length < (2 : Byte).toNat ∧ (2 : Byte).toNat ≤ [5, 9].length)
    ∧ (((2 : Byte) :: [5, 9]) ++ [0xF0]).foldl (· + ·) 0 = 0 ∧ (((2 : Byte) :: [5, 9]) ++ [0xF1]).foldl (· + ·) 0 ≠ 0
    ∧ home.panel.tx = none
    ∧ (let p : Panel := { home.panel with replies := [⟨5, 2, .forwarded, .none⟩] }; p.replies = ⟨5, 2, .forwarded, .none⟩ :: [])
    ∧ (let p : Panel := { home.panel with reports := [.level 0 1] }; p.replies = [] ∧ p.reports = .level 0 1 :: [])
    ∧ (let p : Panel := { home.panel with tx := some (.report (.level 0 1)) }; p.tx.isSome = true) := by decide +kernel

theorem witness_SnapshotsReturnItems :
    (home.Quiet ∧ home.panel.assembler ≠ .outOfService ∧ home.panel.access = none ∧ home.panel.replies.length < 4)
    ∧ (∀ n ∈ [1, 63], (home.peer? n).isSome = true)
    ∧ (∀ n ∈ [1, 32], (home.lines.records.find? fun l => l.number == n).isSome = true)
    ∧ (home.zone? 48 = none ∧ (home.zone? 7).isSome = true)
    ∧ (∀ n ∈ [0, 48], (home.view? n).isSome = true)
    ∧ (let s : State := { home with gov := { home.gov with curtain := 0 } };
        quietCheck s = true ∧ s.gov.curtain = 0 ∧ home.gov.curtain ≠ 0)
    ∧ (∀ n ∈ [1, 4], (home.curtain? n).isSome = true)
    ∧ (∀ n ∈ [1, 12], (home.light? n).isSome = true)
    ∧ (∀ n ∈ [1, 8], (home.sounder? n).isSome = true) :=
  ⟨⟨quiet_of (by decide +kernel), by decide +kernel⟩, by decide +kernel⟩

/-- The station in SERVICE, with an access in course or none. -/
def serviced (access : Option Access) (waiting : Option GoodFrame) : State :=
  { home with
    start := { home.start with mode := some .service }
    panel := { home.panel with access := access, waiting := waiting } }

theorem witness_ProfileCommandsAndBusyLine :
    ((serviced none none).Quiet ∧ (serviced none none).panel.assembler ≠ .outOfService
      ∧ (serviced none none).panel.access = none ∧ (serviced none none).panel.replies.length < 4
      ∧ (serviced none none).start.mode = some .service)
    ∧ (home.Quiet ∧ home.start.mode ≠ some .service)
    ∧ ((gatheringPanel .outOfService).Quiet ∧ (gatheringPanel .outOfService).panel.assembler = .outOfService)
    ∧ (let g : GoodFrame := ⟨2, 9, readFrame 2 [7]⟩;
        g.tag = 9 ∧ quietCheck (serviced (some (.read 1 0 48)) none) = true
        ∧ quietCheck (serviced (some (.read 1 0 48)) (some g)) = true
        ∧ (serviced (some (.read 1 0 48)) (some g)).panel.access.isSome = true)
    ∧ (let s : State := { home with panel := { home.panel with replies := List.replicate 4 ⟨5, 2, .forwarded, .none⟩ } };
        quietCheck s = true ∧ s.panel.access = none ∧ 4 ≤ s.panel.replies.length)
    ∧ (readFrame 29 [] = .unknownKind ∧ readFrame 2 [] = .badLength ∧ readFrame 2 [7] ≠ .unknownKind)
    ∧ (let s : State := { home with start := { home.start with mode := some .profileFault } };
        quietCheck s = true ∧ s.start.mode = some .profileFault)
    ∧ ((4096 : Nat) < (0x0FFF : Half).toNat + (2 : Byte).toNat ∧ ¬ 4096 < (0x0FFF : Half).toNat + (1 : Byte).toNat) :=
  ⟨⟨quiet_of (by decide +kernel), by decide +kernel⟩, ⟨quiet_of (by decide +kernel), by decide +kernel⟩,
    ⟨quiet_of (by decide +kernel), by decide +kernel⟩, by decide +kernel⟩

theorem witness_ProfileAccessEnds :
    let g : GoodFrame := ⟨26, 9, readFrame 26 [0, 0]⟩
    let r : Access := .read 1 0x0FD0 48
    let w : Access := .write 1 0x0FFF [0xAB]
    (serviced none none).MemoryLaw ∧ (serviced (some r) none).MemoryLaw ∧ (serviced (some w) (some g)).MemoryLaw
    ∧ (serviced none none).panel.access = none ∧ (serviced (some r) none).panel.waiting = none
    ∧ (serviced (some w) (some g)).panel.waiting = some g
    ∧ (serviced (some w) (some g)).panel.assembler ≠ .outOfService := by
  refine ⟨⟨by decide +kernel, nofun⟩, ⟨by decide +kernel, ?_⟩, ⟨by decide +kernel, ?_⟩, rfl, rfl, rfl, by decide +kernel⟩
  · intro a h; cases h; unfold Access.inside; decide +kernel
  · intro a h; cases h; unfold Access.inside; decide +kernel

end Sys2Proof.Tests
end

section
/-! PROOFS. The reading classes, samples and derivations of chapter 3 (R46 to R56), and the levels, the phase test and the
written-out words of the tables. -/
namespace Sys2Proof.Machine

/-! ### Lines: class, run counter, sample, re-evaluation -/

/-- Table 3-1 for every kind but UNUSED, which alone has no class (R46, R48). -/
theorem lineClass_used {k : LineKind} (used : k ≠ .unused) (r : Byte) :
    lineClass k r =
      if r.toNat ≤ 7 then .faultOpen
      else if 248 ≤ r.toNat then .faultShort
      else if 160 ≤ r.toNat then .alarm
      else if 96 ≤ r.toNat ∧ k = .smoke then .preAlarm
      else .normal := by
  cases k with
  | unused => exact absurd rfl used
  | smoke => simp [lineClass]
  | heat => simp [lineClass]
  | manual => simp [lineClass]

/-- An UNUSED line keeps its reading alone (R46). -/
theorem LineRec.sample_unused {l : LineRec} (unused : l.kind = .unused) (masked : Bool) (r : Byte) :
    l.sample masked r = { l with reading := some r } := if_pos unused

/-- The run goes on where the reading held is of the class of the new one (R49). -/
theorem LineRec.nextRun_eq (l : LineRec) (r : Byte)
    [Decidable (∃ old, l.reading = some old ∧ lineClass l.kind old = lineClass l.kind r)] :
    l.nextRun r =
      if ∃ old, l.reading = some old ∧ lineClass l.kind old = lineClass l.kind r then min 3 (l.run + 1) else 1 := by
  simp only [LineRec.nextRun, Option.map_eq_some_iff]

/-- A sample at which the line follows no class, latched or with a class that has not persisted (R49, R50). -/
theorem LineRec.sample_stands {l : LineRec} (used : l.kind ≠ .unused) {r : Byte}
    (stands : ¬(l.latched = false ∧ persistence l.kind (lineClass l.kind r) ≤ l.nextRun r)) (masked : Bool) :
    l.sample masked r = { l with reading := some r, run := l.nextRun r } := by
  cases latched : l.latched with
  | true => simp [LineRec.sample, used, latched]
  | false =>
    have passing : ¬ persistence l.kind (lineClass l.kind r) ≤ l.nextRun r := fun persisted => stands ⟨latched, persisted⟩
    simp [LineRec.sample, used, latched, passing]

/-- A sample at which an unlatched line follows a class that has persisted (R49); the latch is of a change to ALARM (R50). -/
theorem LineRec.sample_follows {l : LineRec} (used : l.kind ≠ .unused) (latched : l.latched = false) {r : Byte}
    (persisted : persistence l.kind (lineClass l.kind r) ≤ l.nextRun r) (masked : Bool) :
    l.sample masked r = { l with
      reading := some r
      run := l.nextRun r
      state := lineClass l.kind r
      latched := decide (l.state ≠ .alarm ∧ lineClass l.kind r = .alarm ∧ masked = false) } := by
  by_cases same : lineClass l.kind r = l.state
  · have unchanged : decide (l.state ≠ .alarm ∧ lineClass l.kind r = .alarm ∧ masked = false) = false := by
      simp +contextual [same]
    rw [unchanged]
    simp [LineRec.sample, used, latched, same]
  · have latches : (lineClass l.kind r == .alarm && !masked)
        = decide (l.state ≠ .alarm ∧ lineClass l.kind r = .alarm ∧ masked = false) := by
      by_cases alarm : lineClass l.kind r = .alarm
      · have before : l.state ≠ .alarm := fun h => same (alarm.trans h.symm)
        simp [alarm, before]
      · simp [alarm]
    rw [← latches]
    simp [LineRec.sample, used, latched, persisted, same]

/-- One sample of a used line (R49, R50). -/
theorem LineRec.sample_used {l : LineRec} (used : l.kind ≠ .unused) (masked : Bool) (r : Byte) :
    l.sample masked r = { l with
      reading := some r
      run := l.nextRun r
      state := if l.latched = false ∧ persistence l.kind (lineClass l.kind r) ≤ l.nextRun r then lineClass l.kind r else l.state
      latched := l.latched || decide ((l.latched = false ∧ persistence l.kind (lineClass l.kind r) ≤ l.nextRun r)
        ∧ l.state ≠ .alarm ∧ lineClass l.kind r = .alarm ∧ masked = false) } := by
  by_cases follows : l.latched = false ∧ persistence l.kind (lineClass l.kind r) ≤ l.nextRun r
  · obtain ⟨latched, persisted⟩ := follows
    rw [LineRec.sample_follows used latched persisted]
    simp [latched, persisted]
  · rw [LineRec.sample_stands used follows]
    simp [follows]

/-- The reduced class of a reading, by whether its class is ALARM (R51). -/
theorem reducedClass_some (k : LineKind) (r : Byte) :
    reducedClass k (some r) =
      if lineClass k r = .alarm then (if k = .smoke then .preAlarm else .normal) else lineClass k r := by
  simp only [reducedClass]
  split
  next alarm => rw [if_pos alarm]
  next other => rw [if_neg other]

/-! ### Zones: what a zone takes from its lines -/

/-- A contributing line of a zone (R52). -/
theorem LineRec.contributes_iff (l : LineRec) (z : Nat) (isolated : Bool) :
    l.contributes z isolated = true ↔ l.kind ≠ .unused ∧ l.zone = z ∧ ¬(l.kind = .smoke ∧ isolated = true) := by
  cases isolated with
  | false => simp [LineRec.contributes, LineRec.inZone, LineRec.masked]
  | true => simp [LineRec.contributes, LineRec.inZone, LineRec.masked, and_assoc]

theorem LineState.isFault_iff (st : LineState) : st.isFault = true ↔ st = .faultOpen ∨ st = .faultShort := by
  cases st <;> decide

theorem ZoneState.isQuiet_iff (st : ZoneState) : st.isQuiet = true ↔ st = .quiet ∨ st = .fault ∨ st = .preAlarm := by
  cases st <;> decide

theorem ZoneState.not_isQuiet_iff (st : ZoneState) :
    ¬st.isQuiet = true ↔ st = .alert ∨ st = .confirmed ∨ st = .silenced := by
  cases st <;> decide

/-- PRE_ALARM, where a contributing line is in PRE_ALARM (R55). -/
theorem derivedState_preAlarm {lines : List LineRec} {z : Nat} {isolated : Bool}
    (pre : ∃ l ∈ lines, l.contributes z isolated = true ∧ l.state = .preAlarm) : derivedState lines z isolated = .preAlarm :=
  if_pos (by simpa using pre)

/-- FAULT, where one is in a fault state and none in PRE_ALARM (R55). -/
theorem derivedState_fault {lines : List LineRec} {z : Nat} {isolated : Bool}
    (noPre : ¬∃ l ∈ lines, l.contributes z isolated = true ∧ l.state = .preAlarm)
    (fault : ∃ l ∈ lines, l.contributes z isolated = true ∧ l.state.isFault = true) : derivedState lines z isolated = .fault :=
  (if_neg (by simpa using noPre)).trans (if_pos (by simpa using fault))

/-- QUIET, where none is in PRE_ALARM or a fault state (R55). -/
theorem derivedState_quiet {lines : List LineRec} {z : Nat} {isolated : Bool}
    (neither : ¬∃ l ∈ lines, l.contributes z isolated = true ∧ (l.state = .preAlarm ∨ l.state.isFault = true)) :
    derivedState lines z isolated = .quiet := by
  have noPre : ¬∃ l ∈ lines, l.contributes z isolated = true ∧ l.state = .preAlarm :=
    fun ⟨l, mem, mine, pre⟩ => neither ⟨l, mem, mine, .inl pre⟩
  have noFault : ¬∃ l ∈ lines, l.contributes z isolated = true ∧ l.state.isFault = true :=
    fun ⟨l, mem, mine, fault⟩ => neither ⟨l, mem, mine, .inr fault⟩
  exact (if_neg (by simpa using noPre)).trans (if_neg (by simpa using noFault))

/-- The alarmed set is empty where no contributing line is in ALARM (R52). -/
theorem alarmedSet_isEmpty_iff (lines : List LineRec) (z : Nat) (isolated : Bool) :
    (alarmedSet lines z isolated).isEmpty = true ↔ ¬∃ l ∈ lines, l.contributes z isolated = true ∧ l.state = .alarm := by
  simp [alarmedSet]

/-- A zone in a quiet state with an empty alarmed set takes the derived state (R55). -/
theorem ZoneRec.rederived_quiet {r : ZoneRec} {lines : List LineRec} {isolated : Bool} (quiet : r.state.isQuiet = true)
    (noAlarm : ¬∃ l ∈ lines, l.contributes r.number isolated = true ∧ l.state = .alarm) :
    r.rederived lines isolated = derivedState lines r.number isolated :=
  if_pos (Bool.and_eq_true_iff.2 ⟨quiet, (alarmedSet_isEmpty_iff ..).2 noAlarm⟩)

/-- Every other zone keeps its state (R55). -/
theorem ZoneRec.rederived_stands {r : ZoneRec} {lines : List LineRec} {isolated : Bool}
    (stands : r.state.isQuiet = true → ∃ l ∈ lines, l.contributes r.number isolated = true ∧ l.state = .alarm) :
    r.rederived lines isolated = r.state := by
  refine if_neg fun both => ?_
  obtain ⟨quiet, empty⟩ := Bool.and_eq_true_iff.1 both
  exact (alarmedSet_isEmpty_iff ..).1 empty (stands quiet)

/-! ### Levels and the phase test -/

/-- Isolation raises the level of QUIET alone: every other state has a level of 1 or more (Table 3-6, R71). -/
theorem ViewEntry.level_eq (v : ViewEntry) : v.level = if v.isolated = true ∧ v.state = .quiet then 1 else v.state.level := by
  unfold ViewEntry.level
  by_cases isolated : v.isolated = true
  · cases v.state <;> simp [isolated, ZoneState.level]
  · simp [isolated]

theorem FaultFlags.level_eq (f : FaultFlags) : f.level =
    if f.portADown = true ∨ f.portBDown = true ∨ f.loopOpen = true ∨ f.curtainFault = true then 1 else 0 := by
  simp [FaultFlags.level, or_assoc]

/-- No entry of a view is above the level of the view. -/
theorem ViewEntry.level_le_viewLevel {v : ViewEntry} {view : List ViewEntry} (mem : v ∈ view) : v.level ≤ viewLevel view := by
  induction mem with
  | head => exact Nat.le_max_left _ _
  | tail _ _ ih => exact ih.trans (Nat.le_max_right _ _)

/-- The level of a view is that of one of its entries, or 0. -/
theorem viewLevel_attained (view : List ViewEntry) : viewLevel view = 0 ∨ ∃ v ∈ view, viewLevel view = v.level := by
  induction view with
  | nil => exact .inl rfl
  | cons v rest ih =>
    have cons : viewLevel (v :: rest) = max v.level (viewLevel rest) := rfl
    rcases Nat.le_total (viewLevel rest) v.level with below | above
    · exact .inr ⟨v, List.mem_cons_self, cons.trans (max_eq_left below)⟩
    · rw [cons, max_eq_right above]
      exact ih.imp_right fun ⟨w, mem, level⟩ => ⟨w, List.mem_cons_of_mem _ mem, level⟩

/-- The house level is the station fault level or the level of an entry (R95). -/
theorem House.computedLevel_attained (h : House) :
    h.computedLevel = h.flags.level ∨ ∃ v ∈ h.view, h.computedLevel = v.level := by
  rcases Nat.le_total (viewLevel h.view) h.flags.level with below | above
  · exact .inl (max_eq_right below)
  · have level : h.computedLevel = viewLevel h.view := max_eq_left above
    rcases viewLevel_attained h.view with zero | ⟨v, mem, attained⟩
    · exact .inl (by omega)
    · exact .inr ⟨v, mem, level.trans attained⟩

/-- What "newer" means at the width of a phase sequence (00_scope 5.3). -/
theorem newer_half_iff (n o : Half) : newer n o = true ↔ 1 ≤ (n - o).toNat ∧ (n - o).toNat ≤ 32767 := by
  simp [newer]

/-- The test of R100: a newer sequence, or the same one from a higher origin. -/
theorem House.adoptsPhase_iff (h : House) (seq : Half) (origin : Nat) : h.adoptsPhase seq origin = true ↔
    (1 ≤ (seq - h.phaseSeq).toNat ∧ (seq - h.phaseSeq).toNat ≤ 32767) ∨ (seq = h.phaseSeq ∧ h.phaseOrigin < origin) := by
  simp only [House.adoptsPhase, Bool.or_eq_true, newer_half_iff, Bool.and_eq_true, beq_iff_eq, decide_eq_true_eq]

/-! ### The obligations -/

/-- Settles O33: each clause is the lemma of its function; a zone's clauses turn on the contributing lines (R52). -/
theorem lineFollowsPersistentClass : Obligations.LineFollowsPersistentClass := by
  unfold Obligations.LineFollowsPersistentClass
  refine ⟨fun k r used => lineClass_used used r, fun l masked r unused => LineRec.sample_unused unused masked r, ?sample, ?reevaluate,
    ?zone, fun st => if_pos rfl, rfl, rfl, rfl, rfl, rfl, rfl⟩
  case sample =>
    intro l masked r used
    rw [LineRec.sample_used used, LineRec.nextRun_eq]
    rfl
  case reevaluate =>
    intro l _
    unfold LineRec.reevaluate
    cases reading : l.reading with
    | none => rfl
    | some r => rw [reducedClass_some]
  case zone =>
    intro lines z isolated mine
    have mine_iff (l : LineRec) : mine l ↔ l.contributes z isolated = true := (l.contributes_iff z isolated).symm
    simp only [mine_iff, ← LineState.isFault_iff, ← ZoneState.isQuiet_iff]
    refine ⟨derivedState_preAlarm, derivedState_fault, derivedState_quiet, ?_⟩
    rintro r rfl
    refine ⟨ZoneRec.rederived_quiet, fun busyOrAlarmed => ZoneRec.rederived_stands ?_⟩
    simpa only [imp_iff_not_or, ZoneState.not_isQuiet_iff, or_assoc] using busyOrAlarmed

/-- Settles O60: the tables by their rows, the house level by the view's greatest entry, and the words by evaluation. -/
theorem tablesAndWordsAreTheSpecs : Obligations.TablesAndWordsAreTheSpecs := by
  unfold Obligations.TablesAndWordsAreTheSpecs
  exact ⟨rfl, ViewEntry.level_eq, FaultFlags.level_eq,
    fun h => ⟨fun _ mem => (ViewEntry.level_le_viewLevel mem).trans (Nat.le_max_left _ _), Nat.le_max_right _ _, h.computedLevel_attained⟩,
    rfl, House.adoptsPhase_iff, by decide +kernel⟩

end Sys2Proof.Machine
end

section
/-! PROOFS. The light commands of chapter 8 (R149 to R152, R159, R160), and what two lemmas say of every panel command: how an
offered notice is forwarded, and how a command that leaves the house and the curtain alone ends in a quiet state. -/
namespace Sys2Proof.Machine

/-! ### Commands that leave the house and the curtain alone -/

/-- The own curtain entry is told of start record, house, governor and supervisor alone. -/
theorem State.OwnEntryLaw.congr {s u : State} (told : s.OwnEntryLaw) (start : u.start = s.start) (house : u.house = s.house)
    (gov : u.gov = s.gov) (travel : u.travel = s.travel) : u.OwnEntryLaw := by
  unfold State.OwnEntryLaw State.hasCurtain State.curtain? State.ownSummary at told ⊢
  rw [start, house, gov, travel]
  exact told

/-- A command taken at once in a quiet state, whose action leaves start record, house, governor and supervisor as they are, ends
with its reply and its reports: no level is recomputed and no curtain told (R95, R128). -/
theorem State.panelCommand_quiet {s u : State} (ready : s.Ready) (quiet : s.Quiet) (tag : Byte) {c : PanelCommand}
    (np : c.isProfile = false) {made : List Report} {answer : Answer} {data : ReplyData}
    (acts : (Ev.start s).act c = (⟨u, made, s.gov, false, false⟩, answer, data))
    (start : u.start = s.start) (house : u.house = s.house) (gov : u.gov = s.gov) (travel : u.travel = s.travel) :
    s.panelCommand tag c = (u.replying tag c.kindCode answer data).reporting made := by
  obtain ⟨⟨level, _⟩, told⟩ := quiet
  rw [s.panelCommand_ready ready tag np, acts]
  refine Ev.finish_quiet (e := ⟨u.replying tag c.kindCode answer data, made, s.gov, false, false⟩) ?_ ?_ gov.symm rfl rfl
  · show u.house.level = u.house.computedLevel
    rw [house]
    exact level
  · exact State.OwnEntryLaw.congr (u := u.replying tag c.kindCode answer data) told start house gov travel

/-- A notice that the queue takes is forwarded, and its command applied here (R30). -/
theorem Ev.forward_taken {e : Ev} {n : Notice} {ns : Notices} (taken : e.s.notices.offer e.s.loop n = some ns)
    (applied : Ev → Ev) : e.forward n applied = (applied (e.on fun s => { s with notices := ns }), .forwarded) := by
  simp [Ev.forward, State.takesNotice, Ev.send, Ev.on, State.send, taken]

/-- A notice that the queue refuses refuses its command with LOOP_BUSY (R31). -/
theorem Ev.forward_busy {e : Ev} {n : Notice} (busy : e.s.notices.offer e.s.loop n = none) (applied : Ev → Ev) :
    e.forward n applied = (e, .refused .loopBusy) := by
  simp [Ev.forward, State.takesNotice, busy]

/-! ### What a light action does to a channel -/

theorem LightChannel.addressed_iff (groups : Half) (c : LightChannel) :
    c.addressed groups = true ↔ c.inUse = true ∧ groups.getLsbD c.group = true := by
  simp [LightChannel.addressed, hasBit]

/-- A CUE begins a fade, or waits under an override (R149). -/
theorem LightChannel.act_cue (c : LightChannel) (t time : Half) :
    c.act (.cue t time) =
      if c.override = .none then
        { c with fade := some ⟨c.level, max c.floor (min t.toNat 1000), min time.toNat 6000 * 5, 0, false⟩ }
      else { c with pending := some ⟨max c.floor (min t.toNat 1000), min time.toNat 6000⟩ } := by
  cases h : c.override <;>
    simp [LightChannel.act, LightChannel.cue, LightChannel.beginFade, LightChannel.clampTarget, clampTime, ticksOf, h]

/-- HOLD and RESUME write the held flag of a fade, and pass a channel with an override by (R150). -/
theorem LightChannel.setHeld_eq (held : Bool) (c : LightChannel) :
    c.setHeld held =
      if c.override = .none then { c with fade := c.fade.map fun f => { f with held := held } } else c := by
  cases h : c.override <;> simp [LightChannel.setHeld, h]

/-- RETIME begins a fade's remainder anew, and passes a channel with an override by (R151). -/
theorem LightChannel.act_retime (c : LightChannel) (time : Half) :
    c.act (.retime time) =
      if c.override = .none then
        { c with fade := c.fade.map fun f => ⟨c.level, f.target, min time.toNat 6000 * 5, 0, f.held⟩ }
      else c := by
  cases c with
  | mk number inUse group curve safety floor level fade override =>
    cases override <;> cases fade <;> rfl

/-! ### The light commands that are forwarded (R152) -/

/-- An empty group set addresses nothing. -/
theorem State.panelLight_empty {s : State} (ready : s.Ready) (quiet : s.Quiet) (tag : Byte) (a : LightAction) :
    s.panelCommand tag (.light a 0) = s.replying tag a.kindCode (.refused .badArgument) .none :=
  State.panelCommand_refused (c := .light a 0) ready quiet tag rfl rfl

/-- A light command whose notice the queue refuses. -/
theorem State.panelLight_busy {s : State} (ready : s.Ready) (quiet : s.Quiet) (tag : Byte) (a : LightAction) {groups : Half}
    (some_group : groups ≠ 0) (busy : s.notices.offer s.loop (.lightCue groups a) = none) :
    s.panelCommand tag (.light a groups) = s.replying tag a.kindCode (.refused .loopBusy) .none := by
  refine State.panelCommand_refused (c := .light a groups) ready quiet tag rfl ?_
  show plain ((Ev.start s).panelLight a groups) = _
  rw [Ev.panelLight, if_neg some_group, Ev.forward_busy busy]
  rfl

/-- A light command whose notice the queue takes is applied to the channels here. -/
theorem State.panelLight_forwarded {s : State} (ready : s.Ready) (quiet : s.Quiet) (tag : Byte) (a : LightAction) {groups : Half}
    (some_group : groups ≠ 0) {ns : Notices} (taken : s.notices.offer s.loop (.lightCue groups a) = some ns) :
    s.panelCommand tag (.light a groups) =
      (State.applyLight { s with notices := ns } groups a).replying tag a.kindCode .forwarded .none := by
  refine State.panelCommand_quiet (c := .light a groups) (u := State.applyLight { s with notices := ns } groups a) (made := [])
    ready quiet tag rfl ?_ rfl rfl rfl rfl
  show plain ((Ev.start s).panelLight a groups) = _
  rw [Ev.panelLight, if_neg some_group, Ev.forward_taken taken]
  rfl

/-! ### LIGHTS_RELEASE (R159, R160) -/

/-- A RETAINED channel plays its pending cue, and every other stands (R159). -/
theorem LightChannel.release_eq (c : LightChannel) :
    c.release =
      if c.override = .retained then
        { c with
          override := .none
          pending := none
          fade :=
            match c.pending with
            | none => c.fade
            | some p => some ⟨c.level, p.target, p.time * 5, 0, false⟩ }
      else c := by
  cases c with
  | mk number inUse group curve safety floor level fade override pending =>
    cases override with
    | none => rfl
    | active => rfl
    | retained => cases pending <;> rfl

/-- The reports of a release are those of the RETAINED channels, with no override and no cue pending (R160). -/
theorem overrideReports_release (l : List LightChannel) :
    overrideReports LightChannel.release l =
      (l.filter fun c => c.override = .retained).map fun c => .lights c.number .none c.level none := by
  have changes : ∀ c : LightChannel, (c.release.override != c.override) = decide (c.override = .retained) := by
    intro c
    by_cases retained : c.override = .retained <;> simp [LightChannel.release_eq, retained]
  unfold overrideReports
  simp only [changes]
  refine List.map_congr_left fun c mem => ?_
  have retained : c.override = .retained := by simpa using (List.mem_filter.mp mem).2
  simp [LightChannel.report, LightChannel.release_eq, retained]

/-- The action of LIGHTS_RELEASE where nothing refuses it. -/
theorem Ev.panelRelease_accepted {e : Ev} (key : e.s.managerTurned = true) (low : ¬4 ≤ e.s.house.level) :
    e.panelRelease = (e.lights LightChannel.release, .accepted) := by
  simp [Ev.panelRelease, key, low]

/-- LIGHTS_RELEASE taken at once: the two refusals in order, and the release. -/
theorem State.panelRelease_eq {s : State} (ready : s.Ready) (quiet : s.Quiet) (tag : Byte) :
    s.panelCommand tag .lightsRelease =
      if s.managerTurned = false then s.replying tag 21 (.refused .keyRequired) .none
      else if 4 ≤ s.house.level then s.replying tag 21 (.refused .houseLevel) .none
      else State.reporting
        { s.replying tag 21 .accepted .none with
          lights := { s.lights with channels := s.lights.channels.map LightChannel.release } }
        (overrideReports LightChannel.release s.lights.channels) := by
  split
  next noKey =>
    refine State.panelCommand_refused (c := .lightsRelease) ready quiet tag rfl ?_
    simp [Ev.act, Ev.panelRelease, plain, noKey]
  next key =>
    split
    next high =>
      refine State.panelCommand_refused (c := .lightsRelease) ready quiet tag rfl ?_
      simp [Ev.act, Ev.panelRelease, plain, key, high]
    next low =>
      refine State.panelCommand_quiet (c := .lightsRelease)
        (u := { s with lights := { s.lights with channels := s.lights.channels.map LightChannel.release } })
        ready quiet tag rfl ?_ rfl rfl rfl rfl
      show plain (Ev.start s).panelRelease = _
      rw [Ev.panelRelease_accepted (by simpa using key) low]
      rfl

/-! ### The obligation -/

/-- Settles O50: the forwarded actions by whether the group set is empty and the queue takes the notice, with the channel's
equation of each action; the release by its two checks. -/
theorem lightCommands : Obligations.LightCommands := by
  unfold Obligations.LightCommands
  intro s tag ready quiet effect applied acts
  have effect_eq : ∀ a c, effect a c = LightChannel.act a c := by
    intro a c
    cases a with
    | cue t time => exact (c.act_cue t time).symm
    | hold => exact (c.setHeld_eq true).symm
    | resume => exact (c.setHeld_eq false).symm
    | retime time => exact (c.act_retime time).symm
  have applied_eq : ∀ groups a u, State.applyLight u groups a = applied groups a u := by
    intro groups a u
    simp only [State.applyLight, update, applied, effect_eq, LightChannel.addressed_iff]
  have light : ∀ {groups row a}, exec row s = .next (s.panelCommand tag (.light a groups)) → acts groups row a.kindCode a := by
    intro groups row a runs
    refine runs.trans (congrArg Host.Outcome.next ?_)
    split
    next empty =>
      rw [empty]
      exact State.panelLight_empty ready quiet tag a
    next some_group =>
      split
      next busy => exact State.panelLight_busy ready quiet tag a some_group busy
      next ns taken =>
        rw [← applied_eq]
        exact State.panelLight_forwarded ready quiet tag a some_group taken
  refine ⟨fun _ _ _ => light rfl, fun _ => light rfl, fun _ => light rfl, fun _ _ => light rfl, applied_eq, ?_⟩
  have release := State.panelRelease_eq ready quiet tag
  rw [overrideReports_release, funext LightChannel.release_eq] at release
  exact congrArg Host.Outcome.next release

end Sys2Proof.Machine
end
